-- ==== Sys2Proof/Word.lean ====
section
/-! DEFINITION. The machine's word types (00_scope.md R12, R13): the 32-bit register word, its byte
lanes, and the binary32 pattern and complex pair that the sample ports and the filter RAMs carry. -/

namespace Sys2Proof

/-- A 32-bit register word (20_memory.md R106). -/
abbrev Word := BitVec 32

/-- One byte lane of a register word (20_memory.md R101). -/
abbrev Byte := BitVec 8

/-- A byte address of the 64 KiB register space (20_memory.md R100). -/
abbrev Addr := BitVec 16

/-- An IEEE 754 binary32 value, held as its 32-bit pattern (R12, R101). -/
abbrev F32 := BitVec 32

/-- A one-bit level: `true` is level 1, "high" (R19, 42_manchester.md R250). -/
abbrev Level := Bool

/-- A complex sample: a pair of binary32 patterns (R12). -/
structure C32 where
  re : F32
  im : F32
  deriving DecidableEq, Repr, Inhabited

/-- `mask(n) = 2^n - 1` (R13). -/
def mask (n : Nat) : Nat := 2 ^ n - 1

/-- A field placed at bit `lo` of a register word; the other bits are 0 (R13, R30). -/
def fieldAt {n : Nat} (lo : Nat) (v : BitVec n) : Word := v.setWidth 32 <<< lo

/-- A one-bit field placed at bit `lo` of a register word. -/
def bitAt (lo : Nat) (b : Bool) : Word := fieldAt lo (BitVec.ofBool b)

end Sys2Proof
end

