-- ==== Sys2Proof/Syntax.lean ====
section
/-! DEFINITION. The names the machine's interface is written in: the commands of the opcode map
(30_encoding.md R134), the mapped registers by access class (10_state.md R30, 20_memory.md R107), the
bus accesses a host makes (R100) and the agents that take turns (00_scope.md R10, 20_memory.md R109). -/

namespace Sys2Proof

/-- A filter stage: `s0` is the IF stage (complex), `s1` and `s2` the baseband stages (real)
(40_filter.md R180). -/
inductive StageId where
  | s0
  | s1
  | s2
  deriving DecidableEq, Repr

/-- The stage's number. -/
def StageId.num : StageId → Nat
  | .s0 => 0
  | .s1 => 1
  | .s2 => 2

/-- The two words of a RAM entry: `.c` and `.s` of an OSC_TAB entry, `.re` and `.im` of a SHIFT entry
(10_state.md R44, R45). -/
inductive Lane where
  | first
  | second
  deriving DecidableEq, Repr

/-- The lane's byte offset inside its 8-byte entry. -/
def Lane.offset : Lane → Nat
  | .first => 0
  | .second => 4

/-- A command, one constructor per row of the opcode map (R134). Operands are the raw fields of the
command word (R130, R132); `Instr.WellFormed` holds the range checks of R135 case 3. -/
inductive Instr where
  | nop
  | configure
  | pipePush
  /-- LVL = word[0]. -/
  | rxPushLevel (lvl : Level)
  | rxAbort
  /-- SEL = word[17:16], a stage number. -/
  | oscNext (sel : BitVec 2)
  /-- SEL = word[17:16], a stage number. -/
  | filtCompute (sel : BitVec 2)
  | trkExtend
  | trkStartSymbol
  | trkCount
  | trkLockAvg
  | trkResetAvg
  /-- LVL = word[0]. -/
  | manAdd (lvl : Level)
  | manPopAll
  | manSize
  | manReset
  /-- N = word[5:0], ACC = word[8]. -/
  | crcPush (n : BitVec 6) (acc : Bool)
  | crcFinalize
  | crcReset
  /-- SEL = word[17:16], a vendor number. -/
  | crcSelect (sel : BitVec 2)
  deriving DecidableEq, Repr

/-- The event counters of 10_state.md R59, in address order. -/
inductive CounterId where
  | sample
  | level
  | sync
  | msg
  | crcErr
  | chanErr
  | zeroTxid
  | manErr
  deriving DecidableEq, Repr

/-- The events of 10_state.md R37, in bit order. -/
inductive Event where
  | msg
  | crcErr
  | chanErr
  | zeroTxid
  | manErr
  | sync
  | fatal
  | cmdErr
  deriving DecidableEq, Repr

/-- Registers of class RO (R30). `trkSlot 31` is the reserved word at offset 0x4BC (R54). -/
inductive RoReg where
  | id
  | status
  | err
  | res0
  | res1
  | cmdStatus
  | oscN (s : StageId)
  | oscIdx (s : StageId)
  | dcnt (s : StageId)
  | rxState
  | syncShift
  | trkCur
  | avgNum
  | avgDen
  | manStatus
  | manAcc
  | crcReg
  | crcPoly
  | crcFxor
  | crcAccLo
  | crcAccHi
  | curInfo
  | curHeader
  | curTxid
  | curState
  | trkSlot (i : BitVec 5)
  | msgInfo
  | msgHeader
  | msgTxid
  | msgState
  | msgDevid
  | counter (c : CounterId)
  | shift (s : StageId) (t : Nat) (l : Lane)
  deriving DecidableEq, Repr

/-- Registers of class RW, the W1C and W1S ones among them (R30). -/
inductive RwReg where
  | ctrl
  | evtStatus
  | evtEnable
  | cmd
  | arg0
  | arg1
  deriving DecidableEq, Repr

/-- Registers and RAM words of class CFG (R30). -/
inductive CfgReg where
  | ntaps (s : StageId)
  | decim (s : StageId)
  | fs (s : StageId)
  | ftrans (s : StageId)
  | transEn (s : StageId)
  | syncPattern
  | syncWidth
  | estNum
  | estDen
  | chRange
  | chanVendor
  | poly (v : BitVec 2)
  | finalXor (v : BitVec 2)
  | planLen (v : BitVec 2)
  | plan (v : BitVec 2) (e : BitVec 3)
  | coef (s : StageId) (t : Nat)
  | oscTab (s : StageId) (k : Nat) (l : Lane)
  deriving DecidableEq, Repr

/-- A mapped word of the register space, by access class (R30, R107). -/
inductive Reg where
  | ro (r : RoReg)
  | rw (r : RwReg)
  | cfg (r : CfgReg)
  deriving DecidableEq, Repr

/-- One register-bus access as the host offers it (R100): a byte address, and for a write the data and
the four byte strobes. -/
inductive BusOp where
  | read (addr : Addr)
  | write (addr : Addr) (data : Word) (strobes : BitVec 4)
  deriving DecidableEq, Repr

/-- Which agent moves in a step (R7, R10): the host with its next bus access, the sample producer with
its next sample, or the reset input. -/
inductive Turn where
  | host
  | producer
  | reset
  deriving DecidableEq, Repr

end Sys2Proof
end

