-- ==== Sys2Proof/WellFormed.lean ====
section
/-! DEFINITION. The operand ranges of a command (30_encoding.md R132, R135 case 3). -/

namespace Sys2Proof

/-- A command whose operands are in range: SEL ≠ 3 where SEL is a stage number, N ≤ 32 for CRC_PUSH.
CRC_SELECT takes every SEL. -/
def Instr.WellFormed : Instr → Bool
  | .nop => true
  | .configure => true
  | .pipePush => true
  | .rxPushLevel _ => true
  | .rxAbort => true
  | .oscNext sel => sel.toNat < 3
  | .filtCompute sel => sel.toNat < 3
  | .trkExtend => true
  | .trkStartSymbol => true
  | .trkCount => true
  | .trkLockAvg => true
  | .trkResetAvg => true
  | .manAdd _ => true
  | .manPopAll => true
  | .manSize => true
  | .manReset => true
  | .crcPush n _ => n.toNat ≤ 32
  | .crcFinalize => true
  | .crcReset => true
  | .crcSelect _ => true

end Sys2Proof
end

