-- ==== Sys2Proof/Decode.lean ====
section
/-! DEFINITION. The command decoder (30_encoding.md R133 to R135), total on 32-bit words and rejecting
by name, and the encoder written from the same table (R134). -/

namespace Sys2Proof

/-- Why a word is no command (R135): case 1, an opcode that is not listed; cases 2 and 3, a reserved
bit set or an operand out of range. -/
inductive DecodeError where
  | badOpcode
  | badOperand
  deriving DecidableEq, Repr

/-- OPC = word[31:24] (R130). -/
def opcField (w : Word) : BitVec 8 := w.extractLsb' 24 8

/-- SEL = word[17:16] (R132). -/
def selField (w : Word) : BitVec 2 := w.extractLsb' 16 2

/-- ACC = word[8] (R132). -/
def accField (w : Word) : Bool := w.getLsbD 8

/-- N = word[5:0] (R132). -/
def nField (w : Word) : BitVec 6 := w.extractLsb' 0 6

/-- LVL = word[0] (R132). -/
def lvlField (w : Word) : Level := w.getLsbD 0

/-- One row of the opcode map: the fixed bits must match (R134, R135 case 2), then the operands must be
in range (R135 case 3). -/
def matchRow (pattern msk w : Word) (i : Instr) : Except DecodeError Instr :=
  if w &&& msk = pattern then
    if i.WellFormed then .ok i else .error .badOperand
  else .error .badOperand

/-- The decoder of R133: it reads OPC, checks the opcode's fixed bits, then the operand ranges. -/
def decode (w : Word) : Except DecodeError Instr :=
  match (opcField w).toNat with
  | 0x00 => matchRow 0x00000000 0xFFFFFFFF w .nop
  | 0x01 => matchRow 0x01000000 0xFFFFFFFF w .configure
  | 0x02 => matchRow 0x02000000 0xFFFFFFFF w .pipePush
  | 0x03 => matchRow 0x03000000 0xFFFFFFFE w (.rxPushLevel (lvlField w))
  | 0x04 => matchRow 0x04000000 0xFFFFFFFF w .rxAbort
  | 0x10 => matchRow 0x10000000 0xFFFCFFFF w (.oscNext (selField w))
  | 0x11 => matchRow 0x11000000 0xFFFCFFFF w (.filtCompute (selField w))
  | 0x20 => matchRow 0x20000000 0xFFFFFFFF w .trkExtend
  | 0x21 => matchRow 0x21000000 0xFFFFFFFF w .trkStartSymbol
  | 0x22 => matchRow 0x22000000 0xFFFFFFFF w .trkCount
  | 0x23 => matchRow 0x23000000 0xFFFFFFFF w .trkLockAvg
  | 0x24 => matchRow 0x24000000 0xFFFFFFFF w .trkResetAvg
  | 0x30 => matchRow 0x30000000 0xFFFFFFFE w (.manAdd (lvlField w))
  | 0x31 => matchRow 0x31000000 0xFFFFFFFF w .manPopAll
  | 0x32 => matchRow 0x32000000 0xFFFFFFFF w .manSize
  | 0x33 => matchRow 0x33000000 0xFFFFFFFF w .manReset
  | 0x40 => matchRow 0x40000000 0xFFFFFEC0 w (.crcPush (nField w) (accField w))
  | 0x41 => matchRow 0x41000000 0xFFFFFFFF w .crcFinalize
  | 0x42 => matchRow 0x42000000 0xFFFFFFFF w .crcReset
  | 0x43 => matchRow 0x43000000 0xFFFCFFFF w (.crcSelect (selField w))
  | _ => .error .badOpcode

/-- The command word of a command, by the field layout of R130 and the match column of R134. -/
def encode : Instr → Word
  | .nop => 0x00000000
  | .configure => 0x01000000
  | .pipePush => 0x02000000
  | .rxPushLevel lvl => 0x03000000 ||| bitAt 0 lvl
  | .rxAbort => 0x04000000
  | .oscNext sel => 0x10000000 ||| fieldAt 16 sel
  | .filtCompute sel => 0x11000000 ||| fieldAt 16 sel
  | .trkExtend => 0x20000000
  | .trkStartSymbol => 0x21000000
  | .trkCount => 0x22000000
  | .trkLockAvg => 0x23000000
  | .trkResetAvg => 0x24000000
  | .manAdd lvl => 0x30000000 ||| bitAt 0 lvl
  | .manPopAll => 0x31000000
  | .manSize => 0x32000000
  | .manReset => 0x33000000
  | .crcPush n acc => 0x40000000 ||| bitAt 8 acc ||| fieldAt 0 n
  | .crcFinalize => 0x41000000
  | .crcReset => 0x42000000
  | .crcSelect sel => 0x43000000 ||| fieldAt 16 sel

/-- Byte lane `i` of a register word (20_memory.md R101: lane i carries bits [8i+7 : 8i]). -/
def byteLane (w : Word) (i : Nat) : Byte := w.extractLsb' (8 * i) 8

/-- The register word whose byte lanes are `b0` (lowest address) to `b3` (20_memory.md R101). -/
def wordOfLanes (b0 b1 b2 b3 : Byte) : Word :=
  fieldAt 0 b0 ||| fieldAt 8 b1 ||| fieldAt 16 b2 ||| fieldAt 24 b3

/-- The command in a register image held in byte memory, lowest address first (20_memory.md R101);
every command is exactly one 32-bit word (R133). -/
def decodeBytes (b0 b1 b2 b3 : Byte) : Except DecodeError Instr := decode (wordOfLanes b0 b1 b2 b3)

/-- The instruction the decoder reads from a table row's bits: the low `nbits` bits of `w`, every bit
above them 0. -/
def decodeTableWord (nbits w : Nat) : Option Instr :=
  let word : Word := BitVec.ofNat 32 (w % 2 ^ nbits)
  match decodeBytes (byteLane word 0) (byteLane word 1) (byteLane word 2) (byteLane word 3) with
  | .ok i => some i
  | .error _ => none

end Sys2Proof
end

