-- ==== Sys2Proof/Config.lean ====
section
/-! DEFINITION. What an implementation of the block fixes, and the values the spec leaves free
(00_scope.md R8, 93_implementation_defined.md I2 to I5). Every `opaque` constant here has no body, so
no proof can see its value and every claim holds for every value of it. -/

namespace Sys2Proof.Config

/-- The free number behind `maxTaps`. -/
opaque maxTapsDraw : Nat

/-- MAX_TAPS, the size of each COEF and SHIFT RAM (R8, I4): a build-time parameter the spec leaves
OPEN, "odd, 1 ≤ MAX_TAPS ≤ 1023". Every legal value is the value for some `maxTapsDraw`. -/
def maxTaps : Nat := 2 * (maxTapsDraw % 512) + 1

/-- The free number behind `maxOsc`. -/
opaque maxOscDraw : Nat

/-- MAX_OSC, the size of each oscillator table (R8, I5): OPEN, "1 ≤ MAX_OSC ≤ 1024". Every legal value
is the value for some `maxOscDraw`. -/
def maxOsc : Nat := maxOscDraw % 1024 + 1

/-- The four binary32 operations whose NaN results have no fixed sign and payload (R16, I3). -/
inductive FloatOp where
  | add
  | sub
  | mul
  | sqrt
  deriving DecidableEq, Repr

/-- FREE VALUE: the sign (bit 23) and payload (bits 22:0) of a NaN result, for the operation and its
operands (R16: "When a result is NaN, its sign and payload are not fixed"; I3). -/
opaque nanBits : FloatOp → F32 → F32 → BitVec 24

/-- FREE VALUE: what a COEF, OSC_TAB or SHIFT word not written since reset holds (R60, I2: "a 32-bit
draw, stable until the entry is written"). The first argument counts resets, the second is the word's
bus address. -/
opaque unwrittenWord : Nat → Nat → Word

/-- FREE VALUE: what the bus reads from a SHIFT word that has been written since reset and whose entry has
been at or beyond NTAPS since it was last written (R45, I2: "stable until the entry is written"). The first
argument is the number of the CONFIGURE that last wrote the entry, the second is the word's bus address. -/
opaque staleShiftWord : Nat → Nat → Word

/-- CH_WIDTH, the channel field's width in bits (R8). -/
def chWidth : Nat := 4

/-- CRC_WIDTH, the width of the CRC register and of the CRC field (R8). -/
def crcWidth : Nat := 16

/-- MAX_PLAN, the number of field-plan entries a vendor has (R8). -/
def maxPlan : Nat := 8

/-- SLOT_MAX, the value a tracker slot saturates at (R8, R18 `sat16`). -/
def slotMax : Nat := 65535

/-- MAN_ACC_W, the Manchester accumulator's width and its bit count's saturation value (R8). -/
def manAccWidth : Nat := 32

end Sys2Proof.Config
end

