-- ==== Sys2Proof/Machine/State.lean ====
section
/-! DEFINITION. Everything the spec makes the block hold (10_state.md R30 to R61), the agents' pending
offers (00_scope.md R10), the output ports, and the reset state (70_reset_and_hazards.md R410). -/

namespace Sys2Proof.Machine

/-- The reasons a step stops. Both are the spec's own model fault (10_state.md R60,
70_reset_and_hazards.md R412, 93_implementation_defined.md I1): "a datapath read of an entry without
the mark is a model fault". -/
inductive Fault where
  /-- Raised by the inner product (40_filter.md R184), on PIPE_PUSH, FILT_COMPUTE or an accepted sample:
  COEF[stage][tap] has not been written since reset. Safe: the hardware would go on with an unspecified
  coefficient, and the model claims nothing about that run. -/
  | unwrittenCoef (stage : StageId) (tap : Nat)
  /-- Raised by OscNext (40_filter.md R172), on PIPE_PUSH, FILT_COMPUTE, OSC_NEXT or an accepted sample:
  the lane of OSC_TAB[stage][entry] that the stage reads has not been written since reset. Safe, for the
  same reason. -/
  | unwrittenOsc (stage : StageId) (entry : Nat) (lane : Lane)
  deriving DecidableEq, Repr

/-- The reasons the model gives no meaning. -/
inductive Refusal where
  /-- Raised only by an arm of `exec` whose instruction has no meaning; no arm is so now. Safe: a
  refused command has no next state. -/
  | notModelled (mnemonic : String)
  deriving DecidableEq, Repr

/-- CTRL, STATUS and ERR (10_state.md R34 to R36). STATUS.RUN is CTRL.RUN and STATUS.IRQ is computed
(60_exceptions.md R382). -/
structure Ctrl where
  run : Bool
  configured : Bool
  fatal : Bool
  errCode : BitVec 8
  errIndex : BitVec 8
  deriving DecidableEq, Repr

/-- EVT_STATUS and EVT_ENABLE, bits 7:0 (10_state.md R37). -/
structure Events where
  status : BitVec 8
  enable : BitVec 8
  deriving DecidableEq, Repr

/-- The command registers (10_state.md R38 to R41); CMD_STATUS is its three fields. -/
structure CmdRegs where
  cmd : Word
  arg0 : Word
  arg1 : Word
  res0 : Word
  res1 : Word
  code : BitVec 4
  valid : Bool
  opcode : BitVec 8
  deriving DecidableEq, Repr

/-- The registers of one filter stage (10_state.md R42). Its coefficient RAM and oscillator table are in
`State.mem`, its shift register in `State.shift0`, `shift1` or `shift2`. -/
structure StageRegs where
  ntaps : Word
  decim : Word
  fs : Word
  ftrans : Word
  transEn : Bool
  oscN : Word
  oscIdx : Word
  dcnt : Word
  /-- MODEL's own: the entries of the stage's shift register below this index have stayed below NTAPS since
  they were last written, so the spec gives their values (10_state.md R45). -/
  shiftLive : Nat
  /-- MODEL's own: for each entry the number of the CONFIGURE that last wrote it, for the draws of
  `Config.staleShiftWord`. -/
  shiftStamps : List Nat
  deriving DecidableEq, Repr

/-- A field-plan entry (30_encoding.md R145). -/
structure PlanEntry where
  kind : BitVec 3
  zchk : Bool
  width : BitVec 6
  deriving DecidableEq, Repr

/-- The registers of one vendor (10_state.md R51). -/
structure Vendor where
  poly : BitVec 16
  finalXor : BitVec 16
  planLen : BitVec 4
  plan : Vector PlanEntry 8
  deriving DecidableEq, Repr

/-- The receiver configuration registers (10_state.md R46 to R51). -/
structure RxConfig where
  syncPattern : Word
  syncWidth : BitVec 6
  estNum : Word
  estDen : BitVec 16
  chMin : BitVec 4
  chMax : BitVec 4
  chanVendor : Word
  vendors : Vector Vendor 4
  deriving DecidableEq, Repr

/-- RX_STATE and SYNC_SHIFT (10_state.md R52, R53). `state` keeps the codes of R52: 0 SYNC, 1 CHANNEL,
2 HEADER, 3 TXID, 4 SENSOR_STATE, 5 CRC, with 6 and 7 the unreachable values of 60_exceptions.md R376. -/
structure RxRegs where
  state : BitVec 3
  planIdx : BitVec 4
  prevLevel : Level
  msgActive : Bool
  syncShift : Word
  deriving DecidableEq, Repr

/-- The symbol-rate tracker (10_state.md R54, 41_tracker.md R220). `window` is W, "recomputed only by
CONFIGURE" (10_state.md R61). -/
structure Tracker where
  cur : BitVec 5
  slots : Vector (BitVec 16) 31
  avgNum : Word
  avgDen : BitVec 16
  window : BitVec 5
  deriving DecidableEq, Repr

/-- The Manchester decoder (10_state.md R55). -/
structure Manchester where
  pendLevel : Level
  pendValid : Bool
  cnt : BitVec 6
  acc : Word
  deriving DecidableEq, Repr

/-- The CRC engine (10_state.md R56). -/
structure CrcEngine where
  reg : BitVec 16
  poly : BitVec 16
  fxor : BitVec 16
  acc : BitVec 64
  deriving DecidableEq, Repr

/-- The in-progress message (10_state.md R57). -/
structure CurMsg where
  vendor : BitVec 2
  channel : BitVec 4
  hdrPresent : Bool
  header : Word
  txid : Word
  state : BitVec 8
  deriving DecidableEq, Repr

/-- The output message registers (10_state.md R58). -/
structure OutMsg where
  vendor : BitVec 2
  channel : BitVec 4
  hdrPresent : Bool
  devidPresent : Bool
  valid : Bool
  header : Word
  txid : Word
  state : BitVec 8
  devid : Word
  deriving DecidableEq, Repr

/-- The event counters (10_state.md R59). -/
structure Counters where
  sample : Word
  level : Word
  sync : Word
  msg : Word
  crcErr : Word
  chanErr : Word
  zeroTxid : Word
  manErr : Word
  deriving DecidableEq, Repr

/-- What the message output stream carries in a step with `m_valid` high (00_scope.md R10,
44_receiver.md R316). -/
structure PortMsg where
  vendor : BitVec 2
  channel : BitVec 4
  hdrPresent : Bool
  header : Word
  devidPresent : Bool
  txid : Word
  state : BitVec 8
  deriving DecidableEq, Repr

/-- The bus response code (20_memory.md R100). -/
inductive Resp where
  | okay
  | error
  deriving DecidableEq, Repr

/-- The response of one bus access: a read returns data beside its response code (20_memory.md R100,
R104). -/
inductive BusResp where
  | read (resp : Resp) (data : Word)
  | write (resp : Resp)
  deriving DecidableEq, Repr

/-- The RAM words the host has written since reset (COEF and OSC_TAB), as byte cells at their bus
addresses, strictly rising. An unlisted cell has no value: it is not written since reset
(70_reset_and_hazards.md R412). -/
abbrev Memory := List Host.Cell

/-- The block's state, its output ports in the last step, and the agents' pending offers. -/
structure State where
  ctrl : Ctrl
  evt : Events
  cmd : CmdRegs
  stage0 : StageRegs
  stage1 : StageRegs
  stage2 : StageRegs
  /-- SHIFT[0] as far as it has been written since reset, newest first (10_state.md R45). -/
  shift0 : List C32
  /-- SHIFT[1], real, as far as written since reset. -/
  shift1 : List F32
  /-- SHIFT[2], real, as far as written since reset. -/
  shift2 : List F32
  mem : Memory
  cfg : RxConfig
  rx : RxRegs
  trk : Tracker
  man : Manchester
  crc : CrcEngine
  cur : CurMsg
  msg : OutMsg
  counters : Counters
  /-- Output port: the response of the bus access of the last step, if that step was one. -/
  busOut : Option BusResp
  /-- Output port: the message stream in the last step; `none` is `m_valid = 0`. -/
  msgOut : Option PortMsg
  /-- The host's bus accesses still to be made, in the order it issues them (20_memory.md R109). -/
  bus : List BusOp
  /-- The samples the producer still has to offer, in order (40_filter.md R191). -/
  samples : List C32
  /-- The scheduler's choices: which agent moves in each step to come (93_implementation_defined.md I11). -/
  turns : List Turn
  /-- MODEL's own: how many resets there have been, for the draws of `Config.unwrittenWord`. -/
  epoch : Nat
  /-- MODEL's own: how many CONFIGUREs have succeeded, for the stamps of `StageRegs.shiftStamps`. -/
  configCount : Nat
  deriving DecidableEq, Repr

/-- A stage's registers at reset: all 0 (10_state.md R42). -/
def StageRegs.reset : StageRegs :=
  { ntaps := 0, decim := 0, fs := 0, ftrans := 0, transEn := false, oscN := 0, oscIdx := 0, dcnt := 0,
    shiftLive := 0, shiftStamps := [] }

/-- A plan entry at reset (10_state.md R51). -/
def PlanEntry.reset : PlanEntry := { kind := 0, zchk := false, width := 0 }

/-- A vendor's registers at reset: all 0 (10_state.md R51). -/
def Vendor.reset : Vendor :=
  { poly := 0, finalXor := 0, planLen := 0, plan := Vector.replicate 8 PlanEntry.reset }

/-- The receiver configuration at reset: all 0 (10_state.md R46 to R51). -/
def RxConfig.reset : RxConfig :=
  { syncPattern := 0, syncWidth := 0, estNum := 0, estDen := 0, chMin := 0, chMax := 0, chanVendor := 0,
    vendors := Vector.replicate 4 Vendor.reset }

/-- RX_STATE and SYNC_SHIFT at reset and after CONFIGURE (10_state.md R52, R53). -/
def RxRegs.reset : RxRegs :=
  { state := 0, planIdx := 0, prevLevel := false, msgActive := false, syncShift := 0 }

/-- The tracker at reset (10_state.md R54). R61 gives the window no reset value; 0 is a DESIGN CHOICE
(log entry 3). -/
def Tracker.reset : Tracker :=
  { cur := 0, slots := Vector.replicate 31 0, avgNum := 0, avgDen := 0, window := 0 }

/-- The Manchester decoder at reset and after CONFIGURE (10_state.md R55). -/
def Manchester.reset : Manchester := { pendLevel := false, pendValid := false, cnt := 0, acc := 0 }

/-- The CRC engine at reset and after CONFIGURE (10_state.md R56). -/
def CrcEngine.reset : CrcEngine := { reg := 0, poly := 0, fxor := 0, acc := 0 }

/-- No message in progress (10_state.md R57). -/
def CurMsg.reset : CurMsg :=
  { vendor := 0, channel := 0, hdrPresent := false, header := 0, txid := 0, state := 0 }

/-- No message emitted yet (10_state.md R58). -/
def OutMsg.reset : OutMsg :=
  { vendor := 0, channel := 0, hdrPresent := false, devidPresent := false, valid := false, header := 0,
    txid := 0, state := 0, devid := 0 }

/-- Every counter at 0 (10_state.md R59). -/
def Counters.reset : Counters :=
  { sample := 0, level := 0, sync := 0, msg := 0, crcErr := 0, chanErr := 0, zeroTxid := 0, manErr := 0 }

/-- The machine right after reset (10_state.md R60, 70_reset_and_hazards.md R410): every register at its
stated reset value, every RAM entry not written since reset, nothing on the output ports, and no agent
offering anything yet. -/
def State.reset : State :=
  { ctrl := { run := false, configured := false, fatal := false, errCode := 0, errIndex := 0 }
    evt := { status := 0, enable := 0 }
    cmd := { cmd := 0, arg0 := 0, arg1 := 0, res0 := 0, res1 := 0, code := 0, valid := false, opcode := 0 }
    stage0 := StageRegs.reset
    stage1 := StageRegs.reset
    stage2 := StageRegs.reset
    shift0 := []
    shift1 := []
    shift2 := []
    mem := []
    cfg := RxConfig.reset
    rx := RxRegs.reset
    trk := Tracker.reset
    man := Manchester.reset
    crc := CrcEngine.reset
    cur := CurMsg.reset
    msg := OutMsg.reset
    counters := Counters.reset
    busOut := none
    msgOut := none
    bus := []
    samples := []
    turns := []
    epoch := 0
    configCount := 0 }

end Sys2Proof.Machine
end

