-- ==== Sys2Proof/Machine/Operands.lean ====
section
/-! DEFINITION. Operand assembly (30_encoding.md R131, R132): the fields of the command word and the
operands in CMD_ARG0 and CMD_ARG1. -/

namespace Sys2Proof.Machine

/-- SEL as a stage number; 3 is out of range (R132). -/
def stageOfSel (sel : BitVec 2) : Option StageId :=
  match sel.toNat with
  | 0 => some .s0
  | 1 => some .s1
  | 2 => some .s2
  | _ => none

/-- The C32 operand of PIPE_PUSH and of FILT_COMPUTE on stage 0: ARG0 = re, ARG1 = im (R131). -/
def complexArg (s : State) : C32 := { re := s.cmd.arg0, im := s.cmd.arg1 }

/-- The F32 operand of FILT_COMPUTE on stages 1 and 2: ARG0, with ARG1 ignored (R131). -/
def realArg (s : State) : F32 := s.cmd.arg0

/-- The data word of CRC_PUSH (R131). -/
def crcDataArg (s : State) : Word := s.cmd.arg0

/-- N of CRC_PUSH, zero-extended; CRC_PUSH requires N ≤ 32 (R132). -/
def crcBitCount (n : BitVec 6) : Option Nat := if n.toNat ≤ 32 then some n.toNat else none

end Sys2Proof.Machine
end

