-- ==== Sys2Proof/Machine/Flags.lean ====
section
/-! DEFINITION. Completion codes (30_encoding.md R140), error codes (60_exceptions.md R370), event bits
(10_state.md R37), counters (60_exceptions.md R385), the interrupt output (R382), and the results a
command leaves in CMD_RES0/1 and CMD_STATUS (30_encoding.md R141). -/

namespace Sys2Proof.Machine

/-- Completion codes (30_encoding.md R140). -/
def codeOk : BitVec 4 := 0
def codeBadOpcode : BitVec 4 := 1
def codeBadOperand : BitVec 4 := 2
def codeBusy : BitVec 4 := 3
def codeNotConfigured : BitVec 4 := 4
def codeNotRunning : BitVec 4 := 5
def codeConfigFailed : BitVec 4 := 6

/-- Error codes (60_exceptions.md R370). Codes 2 and 3 are the host's and never raised here. -/
def errZeroSampleRate : BitVec 8 := 1
def errPhaseDiscontinuity : BitVec 8 := 4
def errInsufficientSampleRate : BitVec 8 := 5
def errBadTapCount : BitVec 8 := 6
def errBadDecimation : BitVec 8 := 7
def errBadSyncWidth : BitVec 8 := 8
def errBadEstimate : BitVec 8 := 9
def errBadChannelRange : BitVec 8 := 10
def errBadFieldPlan : BitVec 8 := 11
def errUnreachableState : BitVec 8 := 12

/-- The EVT_STATUS mask of an event (10_state.md R37). -/
def eventBit : Event → BitVec 8
  | .msg => 0x01
  | .crcErr => 0x02
  | .chanErr => 0x04
  | .zeroTxid => 0x08
  | .manErr => 0x10
  | .sync => 0x20
  | .fatal => 0x40
  | .cmdErr => 0x80

/-- `event E`: the bit is set and stays set, whatever EVT_ENABLE holds (60_exceptions.md R380). -/
def raise (e : Event) (s : State) : State :=
  { s with evt := { s.evt with status := s.evt.status ||| eventBit e } }

/-- The counter named (10_state.md R59). -/
def Counters.get (c : Counters) : CounterId → Word
  | .sample => c.sample
  | .level => c.level
  | .sync => c.sync
  | .msg => c.msg
  | .crcErr => c.crcErr
  | .chanErr => c.chanErr
  | .zeroTxid => c.zeroTxid
  | .manErr => c.manErr

/-- The counter named, one up modulo 2^32 (60_exceptions.md R385). -/
def Counters.bump (c : Counters) : CounterId → Counters
  | .sample => { c with sample := c.sample + 1 }
  | .level => { c with level := c.level + 1 }
  | .sync => { c with sync := c.sync + 1 }
  | .msg => { c with msg := c.msg + 1 }
  | .crcErr => { c with crcErr := c.crcErr + 1 }
  | .chanErr => { c with chanErr := c.chanErr + 1 }
  | .zeroTxid => { c with zeroTxid := c.zeroTxid + 1 }
  | .manErr => { c with manErr := c.manErr + 1 }

/-- `count C` (60_exceptions.md R385). -/
def count (c : CounterId) (s : State) : State := { s with counters := s.counters.bump c }

/-- The interrupt output, a level (60_exceptions.md R382): some enabled event bit is set. -/
def State.irq (s : State) : Bool := s.evt.status &&& s.evt.enable != 0

/-- `s_ready`, the sample port's ready output (40_filter.md R191, 45_control.md R343). -/
def State.sReady (s : State) : Bool := s.ctrl.run

/-- A command that returns no result ends OK: CMD_RES0/1 stay, VALID is cleared (30_encoding.md R141). -/
def finish (s : State) : State := { s with cmd := { s.cmd with code := codeOk, valid := false } }

/-- A command that returns results ends OK (30_encoding.md R141). -/
def finishWith (res0 res1 : Word) (valid : Bool) (s : State) : State :=
  { s with cmd := { s.cmd with res0 := res0, res1 := res1, valid := valid, code := codeOk } }

end Sys2Proof.Machine
end

