-- ==== Sys2Proof/Machine/Ops.lean ====
section
/-! DEFINITION. The shared operations: the written RAM words (20_memory.md R101, 70_reset_and_hazards.md
R412), access to stages and vendors, and what the block has in place of exceptions: `CmdError`
(45_control.md R341), the fatal action (60_exceptions.md R376) and `Reset()` (70_reset_and_hazards.md
R410). The block has no trap entry and no return (60_exceptions.md R384). -/

namespace Sys2Proof.Machine

/-- The canonical form of the memory: cell addresses strictly rise. An unlisted cell has no value, so no
cell is redundant. -/
abbrev Memory.wf (m : Memory) : Prop := m.Pairwise (fun c d => c.1 < d.1)

/-- The byte at an address; `none` if it has not been written since reset. -/
def Memory.readByte : Memory → Nat → Option Byte
  | [], _ => none
  | c :: m, a => if a = c.1 then some c.2 else Memory.readByte m a

/-- Writes one byte, keeping the addresses rising. -/
def Memory.writeByte : Memory → Nat → Byte → Memory
  | [], a, b => [(a, b)]
  | c :: m, a, b =>
    if a < c.1 then (a, b) :: c :: m
    else if a = c.1 then (a, b) :: m
    else c :: Memory.writeByte m a b

/-- The word at a word address, byte lane i at address a + i (20_memory.md R101); `none` if it has not
been written since reset. -/
def Memory.readWord (m : Memory) (a : Nat) : Option Word :=
  match m.readByte a, m.readByte (a + 1), m.readByte (a + 2), m.readByte (a + 3) with
  | some b0, some b1, some b2, some b3 =>
    some (fieldAt 0 b0 ||| fieldAt 8 b1 ||| fieldAt 16 b2 ||| fieldAt 24 b3)
  | _, _, _, _ => none

/-- Writes a word, byte lane i to address a + i (20_memory.md R101). Every access is of full width
(R103). -/
def Memory.writeWord (m : Memory) (a : Nat) (w : Word) : Memory :=
  (((m.writeByte a (w.extractLsb' 0 8)).writeByte (a + 1) (w.extractLsb' 8 8)).writeByte (a + 2)
    (w.extractLsb' 16 8)).writeByte (a + 3) (w.extractLsb' 24 8)

/-- The bus address of COEF[s][t] (10_state.md R43). -/
def coefAddr (s : StageId) (t : Nat) : Nat := 0x1000 + 0x1000 * s.num + 4 * t

/-- The bus address of a word of OSC_TAB[s][k] (10_state.md R44). -/
def oscAddr (s : StageId) (k : Nat) (l : Lane) : Nat := 0x4000 + 0x2000 * s.num + 8 * k + l.offset

/-- The bus address of a word of SHIFT[s][t] (10_state.md R45). -/
def shiftAddr (s : StageId) (t : Nat) (l : Lane) : Nat := 0xA000 + 0x2000 * s.num + 8 * t + l.offset

/-- The registers of a stage (10_state.md R42). -/
def State.stage (s : State) : StageId → StageRegs
  | .s0 => s.stage0
  | .s1 => s.stage1
  | .s2 => s.stage2

/-- Replaces the registers of a stage. -/
def State.setStage (s : State) (sid : StageId) (r : StageRegs) : State :=
  match sid with
  | .s0 => { s with stage0 := r }
  | .s1 => { s with stage1 := r }
  | .s2 => { s with stage2 := r }

/-- Vendor `v`'s registers (10_state.md R51). -/
def RxConfig.vendor (c : RxConfig) (v : BitVec 2) : Vendor := c.vendors.get v.toFin

/-- Replaces vendor `v`'s registers. -/
def RxConfig.setVendor (c : RxConfig) (v : BitVec 2) (x : Vendor) : RxConfig :=
  { c with vendors := c.vendors.setIfInBounds v.toNat x }

/-- PLAN[i] of a vendor (10_state.md R51). No run reaches an index above 7; there the model reads an
entry of zeros (log entry 12). -/
def Vendor.entry (v : Vendor) (i : BitVec 4) : PlanEntry := v.plan.getD i.toNat PlanEntry.reset

/-- `CmdError(code)`: the block's answer to an illegal or untimely command (45_control.md R341). It
changes CMD_STATUS.CODE, CMD_STATUS.VALID and the CMD_ERR event, and nothing else. -/
def cmdError (code : BitVec 4) (s : State) : State :=
  raise .cmdErr { s with cmd := { s.cmd with code := code, valid := false } }

/-- `Fatal()`: the answer to an unreachable receiver state (60_exceptions.md R376). -/
def fatalAction (s : State) : State :=
  raise .fatal
    { s with ctrl := { s.ctrl with fatal := true, run := false, errCode := errUnreachableState, errIndex := 0 } }

/-- `Reset()` (70_reset_and_hazards.md R410): every register takes its reset value and every RAM entry
counts as not written. What the agents still have to offer is theirs and stays; the reset is counted, so
that unwritten words may hold new values (R412: "may keep the old values or lose them"). -/
def resetBlock (s : State) : State :=
  { State.reset with
    bus := s.bus, samples := s.samples, turns := s.turns, epoch := s.epoch + 1, configCount := s.configCount }

/-- A step that either stops with the model fault of 93_implementation_defined.md I1 or goes on. -/
def outcomeOf : Except Fault State → Host.Outcome State Fault Refusal
  | .ok s => .next s
  | .error f => .fault f

/-- The mode checks of a component command, in R342's order, before its effect: BUSY while RUN = 1, then
NOT_CONFIGURED while CONFIGURED = 0 (45_control.md R342). -/
def component (body : State → Host.Outcome State Fault Refusal) (s : State) :
    Host.Outcome State Fault Refusal :=
  if s.ctrl.run then .next (cmdError codeBusy s)
  else if s.ctrl.configured then body s
  else .next (cmdError codeNotConfigured s)

end Sys2Proof.Machine
end

