-- ==== Sys2Proof/Machine/Crc.lean ====
section
/-! DEFINITION. The CRC-16 engine (43_crc16.md R270 to R278) and its four commands. -/

namespace Sys2Proof.Machine

/-- `CrcPushBit(d, acc)` (R270). -/
def CrcEngine.pushBit (c : CrcEngine) (d accumulate : Bool) : CrcEngine :=
  let shifted := c.reg <<< 1 ||| (BitVec.ofBool d).setWidth 16
  { c with
    reg := if c.reg.getLsbD 15 then shifted ^^^ c.poly else shifted
    acc := if accumulate then c.acc <<< 1 ||| (BitVec.ofBool d).setWidth 64 else c.acc }

/-- `CrcPush(data, n, acc)`: bits n − 1 down to 0 of `data` (R271). -/
def CrcEngine.push (c : CrcEngine) (data : Word) (n : Nat) (accumulate : Bool) : CrcEngine :=
  match n with
  | 0 => c
  | k + 1 => (c.pushBit (data.getLsbD k) accumulate).push data k accumulate

/-- `CrcFinalize()`'s value (R272): 16 zero bits are pushed, the final XOR is applied, and the saved
register is restored, so the engine itself does not change (R273). -/
def CrcEngine.finalize (c : CrcEngine) : BitVec 16 := (c.push 0 16 false).reg ^^^ c.fxor

/-- `CrcReset()` (R277): the polynomial and the final XOR stay. -/
def CrcEngine.clear (c : CrcEngine) : CrcEngine := { c with reg := 0, acc := 0 }

/-- `CrcSelect(v)` (R278): the register and the accumulator stay. -/
def CrcEngine.select (c : CrcEngine) (v : Vendor) : CrcEngine :=
  { c with poly := v.poly, fxor := v.finalXor }

/-- CRC_PUSH (R275). N > 32 is BAD_OPERAND before the mode checks (30_encoding.md R135 case 3). -/
def execCrcPush (n : BitVec 6) (acc : Bool) (s : State) : Host.Outcome State Fault Refusal :=
  match crcBitCount n with
  | none => .next (cmdError codeBadOperand s)
  | some k => component (fun s => .next (finish { s with crc := s.crc.push (crcDataArg s) k acc })) s

/-- CRC_FINALIZE (R276). -/
def execCrcFinalize (s : State) : Host.Outcome State Fault Refusal :=
  component (fun s => .next (finishWith (s.crc.finalize.setWidth 32) 0 true s)) s

/-- CRC_RESET (R277). -/
def execCrcReset (s : State) : Host.Outcome State Fault Refusal :=
  component (fun s => .next (finish { s with crc := s.crc.clear })) s

/-- CRC_SELECT (R278). Every SEL is a vendor. -/
def execCrcSelect (sel : BitVec 2) (s : State) : Host.Outcome State Fault Refusal :=
  component (fun s => .next (finish { s with crc := s.crc.select (s.cfg.vendor sel) })) s

end Sys2Proof.Machine
end

