-- ==== Sys2Proof/Machine/Manchester.lean ====
section
/-! DEFINITION. The Manchester decoder (42_manchester.md R250 to R259) and its four commands. -/

namespace Sys2Proof.Machine

/-- What `ManAdd` returns; `decoded` carries the data bit (R252). -/
inductive ManResult where
  | buffered
  | decoded (bit : Bool)
  | invalid
  deriving DecidableEq, Repr

/-- The data bit of a pair of levels: (low, high) is 1, (high, low) is 0, any other pair is invalid
(R250). -/
def pairBit (first second : Level) : Option Bool :=
  match first, second with
  | false, true => some true
  | true, false => some false
  | false, false => none
  | true, true => none

/-- The accumulator after one decoded bit: the bit enters at bit 0 and the count saturates (R252, R253). -/
def Manchester.shiftBit (m : Manchester) (bit : Bool) : Manchester :=
  { m with
    acc := m.acc <<< 1 ||| bitAt 0 bit
    cnt := BitVec.ofNat 6 (min (m.cnt.toNat + 1) Config.manAccWidth)
    pendValid := false }

/-- `ManAdd(l)` (R252). An invalid pair discards `l` and keeps the buffered half-symbol (R251). -/
def Manchester.add (m : Manchester) (l : Level) : Manchester × ManResult :=
  if m.pendValid then
    match pairBit m.pendLevel l with
    | some bit => (m.shiftBit bit, .decoded bit)
    | none => (m, .invalid)
  else ({ m with pendLevel := l, pendValid := true }, .buffered)

/-- The decoder after `ManPop()`: the word and the count are cleared, the pending half-symbol stays
(R256, 90_conflicts.md C2). What the pop returns is the old `acc` and `cnt`. -/
def Manchester.pop (m : Manchester) : Manchester := { m with acc := 0, cnt := 0 }

/-- The result words of MAN_ADD (R255): the outcome code, the bit, and VALID. -/
def manResultWords : ManResult → Word × Word × Bool
  | .buffered => (0, 0, false)
  | .decoded bit => (1, bitAt 0 bit, true)
  | .invalid => (2, 0, false)

/-- MAN_ADD (R255). An invalid pair is a result, not an error; no event and no counter moves. -/
def execManAdd (lvl : Level) (s : State) : Host.Outcome State Fault Refusal :=
  component
    (fun s =>
      let (m, r) := s.man.add lvl
      let (res0, res1, valid) := manResultWords r
      .next (finishWith res0 res1 valid { s with man := m }))
    s

/-- MAN_POP_ALL (R256). -/
def execManPopAll (s : State) : Host.Outcome State Fault Refusal :=
  component
    (fun s => .next (finishWith s.man.acc (s.man.cnt.setWidth 32) true { s with man := s.man.pop })) s

/-- MAN_SIZE (R257). -/
def execManSize (s : State) : Host.Outcome State Fault Refusal :=
  component (fun s => .next (finishWith (s.man.cnt.setWidth 32) 0 true s)) s

/-- MAN_RESET (R258). -/
def execManReset (s : State) : Host.Outcome State Fault Refusal :=
  component (fun s => .next (finish { s with man := Manchester.reset })) s

end Sys2Proof.Machine
end

