-- ==== Sys2Proof/Machine/Tracker.lean ====
section
/-! DEFINITION. The symbol-rate tracker (41_tracker.md R220 to R230) and its five commands. -/

namespace Sys2Proof.Machine

/-- W, the number of slots in use (R220, 10_state.md R61). -/
def Tracker.width (t : Tracker) : Nat := t.window.toNat

/-- TRK_SLOT[i] (10_state.md R54). -/
def Tracker.slot (t : Tracker) (i : Nat) : BitVec 16 := t.slots.getD i 0

/-- `SymCount(c, num, den)`, exact (R222): `floor(c/AVG + 1/2)` clamped to 2. -/
def symCount (c num den : Nat) : Nat :=
  if c = 0 then 0
  else if num = 0 then 2
  else min ((2 * c * den + num) / (2 * num)) 2

/-- `CurCount()` (R227). -/
def Tracker.curCount (t : Tracker) : Nat :=
  symCount (t.slot t.cur.toNat).toNat t.avgNum.toNat t.avgDen.toNat

/-- `Extend()` (R225): the in-progress slot, one up, saturating at 65535 (00_scope.md R18). -/
def Tracker.extend (t : Tracker) : Tracker :=
  { t with
    slots := t.slots.setIfInBounds t.cur.toNat
      (BitVec.ofNat 16 (min ((t.slot t.cur.toNat).toNat + 1) Config.slotMax)) }

/-- `StartSymbol()` (R226): the next slot round the window, its count set to 1. -/
def Tracker.startSymbol (t : Tracker) : Tracker :=
  { t with
    cur := BitVec.ofNat 5 ((t.cur.toNat + 1) % t.width)
    slots := t.slots.setIfInBounds ((t.cur.toNat + 1) % t.width) 1 }

/-- `LockSum()` (R224): every slot of the window but the two most recent. The index
`(TRK_CUR - j) mod W` is written without a negative number, since `j < W`. -/
def Tracker.lockSum (t : Tracker) : Nat :=
  ((List.range' 2 (t.width - 2)).map fun j => (t.slot ((t.cur.toNat + t.width - j) % t.width)).toNat).sum

/-- `LockAverage()` (R228). -/
def Tracker.lockAverage (t : Tracker) : Tracker :=
  { t with avgNum := BitVec.ofNat 32 t.lockSum, avgDen := t.window.setWidth 16 - 2 }

/-- `ResetAverage()` (R229). -/
def Tracker.resetAverage (c : RxConfig) (t : Tracker) : Tracker :=
  { t with avgNum := c.estNum, avgDen := c.estDen }

/-- TRK_EXTEND (R225). -/
def execTrkExtend (s : State) : Host.Outcome State Fault Refusal :=
  component (fun s => .next (finish { s with trk := s.trk.extend })) s

/-- TRK_START_SYMBOL (R226). -/
def execTrkStartSymbol (s : State) : Host.Outcome State Fault Refusal :=
  component (fun s => .next (finish { s with trk := s.trk.startSymbol })) s

/-- TRK_COUNT (R227). -/
def execTrkCount (s : State) : Host.Outcome State Fault Refusal :=
  component (fun s => .next (finishWith (BitVec.ofNat 32 s.trk.curCount) 0 true s)) s

/-- TRK_LOCK_AVG (R228). -/
def execTrkLockAvg (s : State) : Host.Outcome State Fault Refusal :=
  component (fun s => .next (finish { s with trk := s.trk.lockAverage })) s

/-- TRK_RESET_AVG (R229). -/
def execTrkResetAvg (s : State) : Host.Outcome State Fault Refusal :=
  component (fun s => .next (finish { s with trk := s.trk.resetAverage s.cfg })) s

end Sys2Proof.Machine
end

