-- ==== Sys2Proof/Machine/Receiver.lean ====
section
/-! DEFINITION. The framing state machine (44_receiver.md R300 to R319) and the command RX_PUSH_LEVEL
(R320). -/

namespace Sys2Proof.Machine

/-- RX_STATE.STATE codes (10_state.md R52). -/
def stSync : BitVec 3 := 0
def stChannel : BitVec 3 := 1
def stHeader : BitVec 3 := 2
def stTxid : BitVec 3 := 3
def stSensor : BitVec 3 := 4
def stCrc : BitVec 3 := 5

/-- The plan entry the receiver is at: PLAN[CUR_INFO.VENDOR][PLAN_IDX] (R303). -/
def State.planEntry (s : State) : PlanEntry := (s.cfg.vendor s.cur.vendor).entry s.rx.planIdx

/-- `FieldWidth()` (R303). -/
def fieldWidth (s : State) : Nat :=
  if s.rx.state = stChannel then Config.chWidth
  else if s.rx.state = stCrc then Config.crcWidth
  else s.planEntry.width.toNat

/-- `NextState(vd, i)` (R306). -/
def nextState (v : Vendor) (i : BitVec 4) : BitVec 3 :=
  if i.toNat < v.planLen.toNat then (v.entry i).kind else stCrc

/-- `EndFrame()`, shared by every abort and every completion (R311). -/
def endFrame (s : State) : State :=
  { s with
    rx := { s.rx with state := stSync, planIdx := 0, syncShift := 0, msgActive := false }
    trk := s.trk.resetAverage s.cfg
    cur := CurMsg.reset }

/-- `NewMessage(vd, c)` (R313). -/
def newMessage (vendor : BitVec 2) (channel : BitVec 4) (s : State) : State :=
  { s with
    cur := { vendor := vendor, channel := channel, hdrPresent := false, header := 0, txid := 0, state := 0 }
    rx := { s.rx with msgActive := true } }

/-- The output message registers after an emission (R316). -/
def outMsgOf (c : CurMsg) : OutMsg :=
  { vendor := c.vendor, channel := c.channel, hdrPresent := c.hdrPresent, devidPresent := false,
    valid := true, header := c.header, txid := c.txid, state := c.state, devid := 0 }

/-- What the message stream carries at an emission (R316). -/
def portMsgOf (c : CurMsg) : PortMsg :=
  { vendor := c.vendor, channel := c.channel, hdrPresent := c.hdrPresent, header := c.header,
    devidPresent := false, txid := c.txid, state := c.state }

/-- `EmitMessage()` (R316). -/
def emitMessage (s : State) : State :=
  raise .msg (count .msg { s with msg := outMsgOf s.cur, msgOut := some (portMsgOf s.cur) })

/-- `CrcMismatch()` (R317). -/
def crcMismatch (s : State) : State := raise .crcErr (count .crcErr s)

/-- The step to the next plan entry that ends a HEADER, TXID or SENSOR_STATE field (R307 to R309). -/
def advancePlan (s : State) : State :=
  { s with
    rx := { s.rx with
      planIdx := s.rx.planIdx + 1
      state := nextState (s.cfg.vendor s.cur.vendor) (s.rx.planIdx + 1) } }

/-- A field value of `w` bits pushed into the CRC engine (R307 to R309). -/
def pushField (v : Word) (w : Nat) (s : State) : State := { s with crc := s.crc.push v w true }

/-- CHAN_VENDOR[2c+1 : 2c] (10_state.md R50). -/
def RxConfig.vendorOf (c : RxConfig) (channel : BitVec 4) : BitVec 2 :=
  c.chanVendor.extractLsb' (2 * channel.toNat) 2

/-- CHANNEL completion with a channel in range (R304). -/
def channelValid (channel : BitVec 4) (s : State) : State :=
  let vendor := s.cfg.vendorOf channel
  let s1 := newMessage vendor channel s
  { s1 with
    crc := (s1.crc.clear.select (s1.cfg.vendor vendor)).push (channel.setWidth 32) Config.chWidth true
    rx := { s1.rx with planIdx := 0, state := nextState (s1.cfg.vendor vendor) 0 } }

/-- CHANNEL completion (R304, R305). -/
def completeChannel (v : Word) (s : State) : State :=
  let channel : BitVec 4 := v.setWidth 4
  if s.cfg.chMin.toNat ≤ channel.toNat ∧ channel.toNat ≤ s.cfg.chMax.toNat then channelValid channel s
  else endFrame (raise .chanErr (count .chanErr s))

/-- HEADER completion (R307). -/
def completeHeader (v : Word) (w : Nat) (s : State) : State :=
  advancePlan (pushField v w
    { s with cur := { s.cur with header := s.cur.header <<< w ||| v, hdrPresent := true } })

/-- TXID completion (R308). The zero test is on the TXID accumulated so far, where the entry asks for
it. -/
def completeTxid (v : Word) (w : Nat) (s : State) : State :=
  let s1 := { s with cur := { s.cur with txid := s.cur.txid <<< w ||| v } }
  if s.planEntry.zchk ∧ s1.cur.txid = 0 then endFrame (raise .zeroTxid (count .zeroTxid s1))
  else advancePlan (pushField v w s1)

/-- SENSOR_STATE completion (R309). -/
def completeSensor (v : Word) (w : Nat) (s : State) : State :=
  advancePlan (pushField v w
    { s with cur := { s.cur with state := s.cur.state <<< w ||| v.setWidth 8 } })

/-- CRC completion (R310). The received value is not pushed into the engine. -/
def completeCrc (v : Word) (s : State) : State :=
  endFrame (if v.setWidth 16 = s.crc.finalize then emitMessage s else crcMismatch s)

/-- The completion of the current field with its popped value, already cut to the field's width
(R304 to R310). -/
def completeField (v : Word) (w : Nat) (s : State) : State :=
  if s.rx.state = stChannel then completeChannel v s
  else if s.rx.state = stHeader then completeHeader v w s
  else if s.rx.state = stTxid then completeTxid v w s
  else if s.rx.state = stSensor then completeSensor v w s
  else completeCrc v s

/-- The SYNC arm (R301). -/
def syncArm (b : Level) (s : State) : State :=
  let m : Word := BitVec.ofNat 32 (mask s.cfg.syncWidth.toNat)
  let shifted := (s.rx.syncShift <<< 1 ||| bitAt 0 b) &&& m
  let s1 := { s with rx := { s.rx with syncShift := shifted } }
  if shifted = s.cfg.syncPattern &&& m then
    let s2 := raise .sync (count .sync { s1 with trk := s1.trk.lockAverage })
    { s2 with rx := { s2.rx with state := stChannel } }
  else s1

/-- The common feed of the field arms (R302). An invalid pair does not abort. -/
def fieldArm (b : Level) (s : State) : State :=
  let (m, r) := s.man.add b
  let s1 := { s with man := m }
  if r = .invalid then raise .manErr (count .manErr s1)
  else if m.cnt.toNat < fieldWidth s1 then s1
  else
    completeField (BitVec.ofNat 32 (m.acc.toNat % 2 ^ fieldWidth s1)) (fieldWidth s1)
      { s1 with man := m.pop }

/-- `SmStep(b)` (R301, R302), with the fatal action for the unreachable state values (R312). -/
def smStep (b : Level) (s : State) : State :=
  if s.rx.state = stSync then syncArm b s
  else if s.rx.state.toNat ≤ stCrc.toNat then fieldArm b s
  else fatalAction s

/-- Level `b` replayed into the state machine up to `n` times, stopping once FATAL is set (R300). -/
def replay (b : Level) : Nat → State → State
  | 0, s => s
  | n + 1, s => if s.ctrl.fatal then s else replay b n (smStep b s)

/-- `RxPush(l)` (R300). The symbol count is computed once, before the replays. -/
def rxPush (l : Level) (s : State) : State :=
  let s0 := count .level s
  if l = s0.rx.prevLevel then { s0 with trk := s0.trk.extend }
  else
    let s1 := replay s0.rx.prevLevel s0.trk.curCount s0
    { s1 with trk := s1.trk.startSymbol, rx := { s1.rx with prevLevel := l } }

/-- RX_PUSH_LEVEL (R320). -/
def execRxPushLevel (lvl : Level) (s : State) : Host.Outcome State Fault Refusal :=
  component (fun s => .next (finish (rxPush lvl s))) s

end Sys2Proof.Machine
end

