-- ==== Sys2Proof/Machine/Control.lean ====
section
/-! DEFINITION. The control commands: CONFIGURE with its checks (45_control.md R345 to R348), RX_ABORT
(R351) and NOP (R352). -/

namespace Sys2Proof.Machine

/-- `abs(sext(FTRANS))`, a mathematical integer 0 to 2^31 (R346). -/
def freqMagnitude (r : StageRegs) : Nat := r.ftrans.toInt.natAbs

/-- `Period(s) = FS / gcd(FS, abs(FTRANS))` (R346, 40_filter.md R170). -/
def oscPeriod (r : StageRegs) : Nat := r.fs.toNat / Nat.gcd r.fs.toNat (freqMagnitude r)

/-- The checks of one stage, in R346's order: the first failing check's error code, or `none`. The two
limits are MAX_TAPS and MAX_OSC. -/
def checkStage (maxTaps maxOsc : Nat) (r : StageRegs) : Option (BitVec 8) :=
  if r.fs.toNat = 0 then some errZeroSampleRate
  else if r.ntaps.toNat = 0 ∨ r.ntaps.toNat % 2 = 0 ∨ maxTaps < r.ntaps.toNat then some errBadTapCount
  else if r.decim.toNat = 0 then some errBadDecimation
  else if r.transEn ∧ r.fs.toNat < 2 * freqMagnitude r then some errInsufficientSampleRate
  else if r.transEn ∧ maxOsc < oscPeriod r then some errPhaseDiscontinuity
  else none

/-- `CheckStages()` (R346): stages 0, 1, 2 in order, the first failure with its stage number. -/
def checkStages (maxTaps maxOsc : Nat) (s : State) : Option (BitVec 8 × BitVec 8) :=
  match checkStage maxTaps maxOsc s.stage0 with
  | some e => some (e, 0)
  | none =>
    match checkStage maxTaps maxOsc s.stage1 with
    | some e => some (e, 1)
    | none =>
      match checkStage maxTaps maxOsc s.stage2 with
      | some e => some (e, 2)
      | none => none

/-- The legality of one plan entry (R347): KIND 2, 3 or 4, WIDTH 1 to 32, ZCHK only on TXID. -/
def entryLegal (k : PlanEntry) : Bool :=
  (k.kind = stHeader ∨ k.kind = stTxid ∨ k.kind = stSensor) ∧ 1 ≤ k.width.toNat ∧ k.width.toNat ≤ 32 ∧
    (k.zchk → k.kind = stTxid)

/-- The entries of a vendor's plan, PLAN[0] to PLAN[PLAN_LEN − 1] (10_state.md R51). -/
def Vendor.entries (v : Vendor) : List PlanEntry := v.plan.toList.take v.planLen.toNat

/-- The total width of a plan's entries of one kind (R347). -/
def totalWidth (kind : BitVec 3) (es : List PlanEntry) : Nat :=
  ((es.filter fun k => k.kind = kind).map fun k => k.width.toNat).sum

/-- The legality of a vendor's plan (R347). -/
def planLegal (v : Vendor) : Bool :=
  v.planLen.toNat ≤ Config.maxPlan ∧ v.entries.all entryLegal ∧ totalWidth stHeader v.entries ≤ 32 ∧
    totalWidth stTxid v.entries ≤ 32 ∧ totalWidth stSensor v.entries ≤ 8

/-- `CheckReceiver()` (R347): the first failing check's error code and index, or `none`. All four vendors
are checked. -/
def checkReceiver (c : RxConfig) : Option (BitVec 8 × BitVec 8) :=
  if c.syncWidth.toNat < 4 ∨ 32 < c.syncWidth.toNat then some (errBadSyncWidth, 0)
  else if c.estNum.toNat = 0 ∨ c.estDen.toNat = 0 then some (errBadEstimate, 0)
  else if c.chMax.toNat < c.chMin.toNat then some (errBadChannelRange, 0)
  else if !planLegal (c.vendor 0) then some (errBadFieldPlan, 0)
  else if !planLegal (c.vendor 1) then some (errBadFieldPlan, 1)
  else if !planLegal (c.vendor 2) then some (errBadFieldPlan, 2)
  else if !planLegal (c.vendor 3) then some (errBadFieldPlan, 3)
  else none

/-- All of CONFIGURE's checks, the stages first (R345). -/
def checkConfig (maxTaps maxOsc : Nat) (s : State) : Option (BitVec 8 × BitVec 8) :=
  match checkStages maxTaps maxOsc s with
  | some e => some e
  | none => checkReceiver s.cfg

/-- A stage's registers after CONFIGURE number `n`: OSC_N recomputed (R345), DCNT and OSC_IDX cleared
(R348). The entries of SHIFT below NTAPS are written, and only those take the new stamp. -/
def initStage (n : Nat) (r : StageRegs) : StageRegs :=
  { r with
    oscN := if r.transEn then BitVec.ofNat 32 (oscPeriod r) else 0
    dcnt := 0
    oscIdx := 0
    shiftLive := r.ntaps.toNat
    shiftStamps := List.replicate r.ntaps.toNat n ++ r.shiftStamps.drop r.ntaps.toNat }

/-- A shift register after CONFIGURE: entries below NTAPS at +0.0, the others as they were (R348,
10_state.md R45). -/
def initShift {α : Type} (zero : α) (r : StageRegs) (sh : List α) : List α :=
  List.replicate r.ntaps.toNat zero ++ sh.drop r.ntaps.toNat

/-- The tracker after CONFIGURE (10_state.md R54, R61): the window is recomputed, the average is the
estimate. -/
def initTracker (c : RxConfig) : Tracker :=
  { cur := 0, slots := Vector.replicate 31 0, avgNum := c.estNum, avgDen := c.estDen,
    window := (c.syncWidth - 1).setWidth 5 }

/-- The OSC_N update of CONFIGURE and `InitRuntime()` (R345, R348). CTRL, the events, the command
registers, COEF and OSC_TAB stay. -/
def initRuntime (s : State) : State :=
  { s with
    stage0 := initStage (s.configCount + 1) s.stage0
    stage1 := initStage (s.configCount + 1) s.stage1
    stage2 := initStage (s.configCount + 1) s.stage2
    shift0 := initShift { re := 0, im := 0 } s.stage0 s.shift0
    shift1 := initShift 0 s.stage1 s.shift1
    shift2 := initShift 0 s.stage2 s.shift2
    rx := RxRegs.reset
    trk := initTracker s.cfg
    man := Manchester.reset
    crc := CrcEngine.reset
    cur := CurMsg.reset
    msg := OutMsg.reset
    counters := Counters.reset
    configCount := s.configCount + 1 }

/-- A failed CONFIGURE: ERR holds the failing check and the command ends with CONFIG_FAILED (R345). -/
def configureFailed (code index : BitVec 8) (s : State) : State :=
  cmdError codeConfigFailed { s with ctrl := { s.ctrl with errCode := code, errIndex := index } }

/-- A successful CONFIGURE (R345). -/
def configureDone (s : State) : State :=
  let s1 := initRuntime s
  { s1 with ctrl := { s1.ctrl with errCode := 0, errIndex := 0, fatal := false, configured := true } }

/-- CONFIGURE (R345). Its one mode check is BUSY while RUN = 1 (R342). -/
def execConfigure (s : State) : Host.Outcome State Fault Refusal :=
  if s.ctrl.run then .next (cmdError codeBusy s)
  else
    match checkConfig Config.maxTaps Config.maxOsc s with
    | some (code, index) => .next (configureFailed code index s)
    | none => .next (finish (configureDone s))

/-- RX_ABORT (R351): EndFrame and ManReset; the level history and the CRC engine stay. -/
def execRxAbort (s : State) : Host.Outcome State Fault Refusal :=
  component
    (fun s =>
      let s1 := endFrame s
      .next (finish { s1 with man := Manchester.reset }))
    s

/-- NOP (R352): no mode check, and no effect but CODE ← OK and VALID ← 0. -/
def execNop (s : State) : Host.Outcome State Fault Refusal := .next (finish s)

end Sys2Proof.Machine
end

