-- ==== Sys2Proof/Machine/Float.lean ====
section
/-! DEFINITION. IEEE 754 binary32 arithmetic with roundTiesToEven, subnormals kept, nothing fused and
no flags (00_scope.md R16), and the complex primitives over it in the spec's operation order (R17). -/

namespace Sys2Proof.Machine

/-- The sign bit, bit 31 (R16). -/
def signBit (a : F32) : Bool := a.getLsbD 31

/-- The biased exponent, bits 30:23 (20_memory.md R101). -/
def expField (a : F32) : Nat := (a.extractLsb' 23 8).toNat

/-- The fraction, bits 22:0 (20_memory.md R101). -/
def fracField (a : F32) : Nat := (a.extractLsb' 0 23).toNat

/-- `isNaN(a)` (R16). -/
def isNaN (a : F32) : Bool := expField a == 255 && fracField a != 0

/-- What a binary32 pattern stands for: a NaN, an infinity, or exactly `±m · 2^e`. -/
inductive FloatClass where
  | nan
  | inf (neg : Bool)
  | fin (neg : Bool) (m : Nat) (e : Int)
  deriving DecidableEq, Repr

/-- The value of a pattern. An exponent field of 0 is zero or a subnormal (R16: subnormals are kept). -/
def classify (a : F32) : FloatClass :=
  if expField a = 255 then
    if fracField a = 0 then .inf (signBit a) else .nan
  else if expField a = 0 then .fin (signBit a) (fracField a) (-149)
  else .fin (signBit a) (2 ^ 23 + fracField a) ((expField a : Int) - 150)

/-- The pattern with the given sign and magnitude bits. -/
def packSign (neg : Bool) (magnitude : Nat) : F32 := bitAt 31 neg ||| BitVec.ofNat 32 magnitude

/-- The infinity of the given sign. -/
def infinity (neg : Bool) : F32 := packSign neg 0x7F800000

/-- A NaN with the given sign and payload; payload 0, which would be an infinity, stands for the payload
with only the quiet bit set. Every NaN pattern is the value for some argument. -/
def mkNaN (bits : BitVec 24) : F32 :=
  let payload := bits.toNat % 2 ^ 23
  packSign (bits.getLsbD 23) (0x7F800000 + if payload = 0 then 0x400000 else payload)

/-- `m / 2^k` rounded to the nearest integer, ties to even. -/
def roundShift (m k : Nat) : Nat :=
  let q := m / 2 ^ k
  let r := m % 2 ^ k
  if 2 * r > 2 ^ k ∨ (2 * r = 2 ^ k ∧ q % 2 = 1) then q + 1 else q

/-- The binary32 value nearest to the exact `±m · 2^e`, ties to even (R16). The quantum exponent `q` is
the larger of the subnormal one and the one that leaves 24 significant bits; the magnitude bits of
`n · 2^q` are then `(q + 149) · 2^23 + n`, also when rounding carried into the next binade, and a
magnitude beyond the largest finite one is an infinity. -/
def roundPack (neg : Bool) (m : Nat) (e : Int) : F32 :=
  if m = 0 then packSign neg 0
  else
    let q := max (e + (Nat.log2 m : Int) - 23) (-149)
    let n := if q ≤ e then m * 2 ^ (e - q).toNat else roundShift m (q - e).toNat
    let magnitude := (q + 149).toNat * 2 ^ 23 + n
    if magnitude ≥ 0x7F800000 then infinity neg else packSign neg magnitude

/-- The exact signed integer `±m`. -/
def signedInt (neg : Bool) (m : Nat) : Int := if neg then -(m : Int) else m

/-- The rounded sum of two exact values. An exact zero sum is +0 unless both addends are negative
(IEEE 754, roundTiesToEven). -/
def addFinite (n1 : Bool) (m1 : Nat) (e1 : Int) (n2 : Bool) (m2 : Nat) (e2 : Int) : F32 :=
  let e := min e1 e2
  let sum := signedInt n1 (m1 * 2 ^ (e1 - e).toNat) + signedInt n2 (m2 * 2 ^ (e2 - e).toNat)
  if sum = 0 then packSign (n1 && n2) 0 else roundPack (sum < 0) sum.natAbs e

/-- The sum, or `none` where it is a NaN. -/
def addCore (a b : F32) : Option F32 :=
  match classify a, classify b with
  | .nan, _ => none
  | _, .nan => none
  | .inf n1, .inf n2 => if n1 = n2 then some (infinity n1) else none
  | .inf n1, .fin _ _ _ => some (infinity n1)
  | .fin _ _ _, .inf n2 => some (infinity n2)
  | .fin n1 m1 e1, .fin n2 m2 e2 => some (addFinite n1 m1 e1 n2 m2 e2)

/-- The product, or `none` where it is a NaN. -/
def mulCore (a b : F32) : Option F32 :=
  match classify a, classify b with
  | .nan, _ => none
  | _, .nan => none
  | .inf n1, .inf n2 => some (infinity (n1 ^^ n2))
  | .inf n1, .fin n2 m2 _ => if m2 = 0 then none else some (infinity (n1 ^^ n2))
  | .fin n1 m1 _, .inf n2 => if m1 = 0 then none else some (infinity (n1 ^^ n2))
  | .fin n1 m1 e1, .fin n2 m2 e2 => some (roundPack (n1 ^^ n2) (m1 * m2) (e1 + e2))

/-- The integer square root of `n`, found bit by bit from bit `k - 1` down; `r` holds the bits found. -/
def isqrtFrom (n : Nat) : Nat → Nat → Nat
  | 0, r => r
  | k + 1, r => if (r + 2 ^ k) * (r + 2 ^ k) ≤ n then isqrtFrom n k (r + 2 ^ k) else isqrtFrom n k r

/-- The rounded square root of the exact `m · 2^e`, `m > 0`. `m` is scaled so that the exponent is even
and the integer root has at least 27 bits; one further bit says whether the root is inexact, so that
rounding `2r + inexact` to 24 bits rounds the exact root. -/
def sqrtFinite (m : Nat) (e : Int) : F32 :=
  let k : Nat := if e % 2 = 0 then 54 else 55
  let scaled := m * 2 ^ k
  let r := isqrtFrom scaled 40 0
  roundPack false (2 * r + if r * r = scaled then 0 else 1) ((e - (k : Int)) / 2 - 1)

/-- The square root, or `none` where it is a NaN. The root of −0 is −0. -/
def sqrtCore (a : F32) : Option F32 :=
  match classify a with
  | .nan => none
  | .inf neg => if neg then none else some a
  | .fin neg m e => if m = 0 then some a else if neg then none else some (sqrtFinite m e)

/-- A result, a NaN one with the free sign and payload of `Config.nanBits` (R16, I3). -/
def orNaN (op : Config.FloatOp) (a b : F32) : Option F32 → F32
  | some r => r
  | none => mkNaN (Config.nanBits op a b)

/-- `fadd(a, b)` (R16). -/
def fadd (a b : F32) : F32 := orNaN .add a b (addCore a b)

/-- `fsub(a, b)` (R16): the sum of `a` and `b` with its sign turned. -/
def fsub (a b : F32) : F32 := orNaN .sub a b (addCore a (b ^^^ 0x80000000))

/-- `fmul(a, b)` (R16). -/
def fmul (a b : F32) : F32 := orNaN .mul a b (mulCore a b)

/-- `fsqrt(a)` (R16). -/
def fsqrt (a : F32) : F32 := orNaN .sqrt a 0 (sqrtCore a)

/-- `cmul(x, w)` (R17). -/
def cmul (x w : C32) : C32 :=
  { re := fsub (fmul x.re w.re) (fmul x.im w.im)
    im := fadd (fmul x.re w.im) (fmul x.im w.re) }

/-- `cscale(c, x)` (R17). -/
def cscale (c : F32) (x : C32) : C32 := { re := fmul c x.re, im := fmul c x.im }

/-- `cadd(a, b)` (R17). -/
def cadd (a b : C32) : C32 := { re := fadd a.re b.re, im := fadd a.im b.im }

/-- `cmag(x)` (R17, 40_filter.md R186). -/
def cmag (x : C32) : F32 := fsqrt (fadd (fmul x.re x.re) (fmul x.im x.im))

/-- `Slice(y)`, the sign-bit step (40_filter.md R185): level 1 iff `y` is no NaN and its sign is clear. -/
def slice (y : F32) : Level := !isNaN y && !signBit y

end Sys2Proof.Machine
end

