-- ==== Sys2Proof/Machine/Filter.lean ====
section
/-! DEFINITION. The oscillator and the decimating filter (40_filter.md R170 to R187), and the commands
OSC_NEXT (R194) and FILT_COMPUTE (R195). -/

namespace Sys2Proof.Machine

/-- What the filter does with samples of one type (R180): the product with a tap and the sum of the
inner product (R184), and the translation product with an oscillator entry (R182). -/
structure SampleOps (α : Type) where
  scale : F32 → α → α
  add : α → α → α
  mix : α → F32 → F32 → α

/-- Stage 0: complex samples (R180, R182, R184). -/
def complexOps : SampleOps C32 :=
  { scale := cscale, add := cadd, mix := fun x c s => cmul x { re := c, im := s } }

/-- Stages 1 and 2: real samples, and the oscillator's `.c` only (R180, R182, R184). -/
def realOps : SampleOps F32 := { scale := fmul, add := fadd, mix := fun x c _ => fmul x c }

/-- OSC_TAB[s][k] as the datapath reads it (10_state.md R44): both lanes in stage 0, `.c` alone (with 0
for `.s`) in stages 1 and 2. A lane it reads that is not written since reset is the model fault I1. -/
def oscEntry (mem : Memory) (s : StageId) (k : Nat) : Except Fault (F32 × F32) :=
  match mem.readWord (oscAddr s k .first) with
  | none => .error (.unwrittenOsc s k .first)
  | some c =>
    match s with
    | .s0 =>
      match mem.readWord (oscAddr s k .second) with
      | none => .error (.unwrittenOsc s k .second)
      | some im => .ok (c, im)
    | .s1 => .ok (c, 0)
    | .s2 => .ok (c, 0)

/-- The phase index after one OscNext: `(OSC_IDX + 1) mod OSC_N` (R172). -/
def oscAdvance (r : StageRegs) : StageRegs :=
  { r with oscIdx := BitVec.ofNat 32 ((r.oscIdx.toNat + 1) % r.oscN.toNat) }

/-- `OscNext(s)`: the current table entry, and the stage with its phase index advanced (R172). -/
def oscNext (mem : Memory) (s : StageId) (r : StageRegs) : Except Fault ((F32 × F32) × StageRegs) :=
  match oscEntry mem s r.oscIdx.toNat with
  | .error f => .error f
  | .ok w => .ok (w, oscAdvance r)

/-- The number of shift-register entries that take part: NTAPS, which a configured stage has at 1 or
more (R346). With NTAPS = 0 the loops of R181 and R184 touch entry 0 alone, as with 1. -/
def tapCount (r : StageRegs) : Nat := max r.ntaps.toNat 1

/-- Entry `t` of a shift register; an entry not written since reset holds a free value (10_state.md R45,
R60). `draw` gives it. -/
def shiftEntry {α : Type} (draw : Nat → α) (sh : List α) (t : Nat) : α := sh.getD t (draw t)

/-- The shift register after the shift and store of R181: `x` at index 0, each of the first `n - 1`
entries one place up, the entries at and beyond `n` as they were. -/
def shiftIn {α : Type} (draw : Nat → α) (n : Nat) (sh : List α) (x : α) : List α :=
  x :: ((List.range (n - 1)).map (shiftEntry draw sh) ++ sh.drop n)

/-- `COEF[s][t] · SHIFT[s][t]` (R184). A coefficient not written since reset is the model fault I1. -/
def tapProduct {α : Type} (ops : SampleOps α) (draw : Nat → α) (mem : Memory) (s : StageId)
    (sh : List α) (t : Nat) : Except Fault α :=
  match mem.readWord (coefAddr s t) with
  | none => .error (.unwrittenCoef s t)
  | some c => .ok (ops.scale c (shiftEntry draw sh t))

/-- The taps `t, t + 1, …` of the inner product, `k` of them, added to `acc` in ascending order (R184). -/
def accumulateTaps {α : Type} (ops : SampleOps α) (draw : Nat → α) (mem : Memory) (s : StageId)
    (sh : List α) : Nat → Nat → α → Except Fault α
  | 0, _, acc => .ok acc
  | k + 1, t, acc =>
    match tapProduct ops draw mem s sh t with
    | .error f => .error f
    | .ok p => accumulateTaps ops draw mem s sh k (t + 1) (ops.add acc p)

/-- `InnerProduct(s)`: the sum starts from the first product (R184). -/
def innerProduct {α : Type} (ops : SampleOps α) (draw : Nat → α) (mem : Memory) (s : StageId) (n : Nat)
    (sh : List α) : Except Fault α :=
  match tapProduct ops draw mem s sh 0 with
  | .error f => .error f
  | .ok p => accumulateTaps ops draw mem s sh (n - 1) 1 p

/-- What one FilterCompute leaves: the stage's registers, its shift register, and its output if the
decimation counter came round. -/
structure FilterResult (α : Type) where
  regs : StageRegs
  shift : List α
  out : Option α

/-- The translation step of R181: with TRANS_EN the newest entry is multiplied by the next oscillator
value, on every call. -/
def translate {α : Type} (ops : SampleOps α) (mem : Memory) (s : StageId) (r : StageRegs) (x : α) :
    Except Fault (α × StageRegs) :=
  if r.transEn then
    match oscNext mem s r with
    | .error f => .error f
    | .ok (w, r1) => .ok (ops.mix x w.1 w.2, r1)
  else .ok (x, r)

/-- `FilterCompute(s, x)` (R181) over the stage's registers, shift register and the written RAM words. -/
def filterCompute {α : Type} (ops : SampleOps α) (draw : Nat → α) (mem : Memory) (s : StageId)
    (r : StageRegs) (sh : List α) (x : α) : Except Fault (FilterResult α) :=
  match translate ops mem s r x with
  | .error f => .error f
  | .ok (y, r1) =>
    let sh1 := shiftIn draw (tapCount r) sh y
    if r1.dcnt + 1 = r1.decim then
      match innerProduct ops draw mem s (tapCount r) sh1 with
      | .error f => .error f
      | .ok v => .ok { regs := { r1 with dcnt := 0 }, shift := sh1, out := some v }
    else .ok { regs := { r1 with dcnt := r1.dcnt + 1 }, shift := sh1, out := none }

/-- The free value of a word of SHIFT[sid][t] not written since reset. -/
def shiftDraw (s : State) (sid : StageId) (l : Lane) (t : Nat) : F32 :=
  Config.unwrittenWord s.epoch (shiftAddr sid t l)

/-- The free value of the complex entry SHIFT[0][t] not written since reset. -/
def complexDraw (s : State) (t : Nat) : C32 :=
  { re := shiftDraw s .s0 .first t, im := shiftDraw s .s0 .second t }

/-- FilterCompute on stage 0 (R181). -/
def filterStage0 (x : C32) (s : State) : Except Fault (State × Option C32) :=
  match filterCompute complexOps (complexDraw s) s.mem .s0 s.stage0 s.shift0 x with
  | .error f => .error f
  | .ok r => .ok ({ s with stage0 := r.regs, shift0 := r.shift }, r.out)

/-- FilterCompute on stage 1 (R181). -/
def filterStage1 (x : F32) (s : State) : Except Fault (State × Option F32) :=
  match filterCompute realOps (shiftDraw s .s1 .first) s.mem .s1 s.stage1 s.shift1 x with
  | .error f => .error f
  | .ok r => .ok ({ s with stage1 := r.regs, shift1 := r.shift }, r.out)

/-- FilterCompute on stage 2 (R181). -/
def filterStage2 (x : F32) (s : State) : Except Fault (State × Option F32) :=
  match filterCompute realOps (shiftDraw s .s2 .first) s.mem .s2 s.stage2 s.shift2 x with
  | .error f => .error f
  | .ok r => .ok ({ s with stage2 := r.regs, shift2 := r.shift }, r.out)

/-- The results of FILT_COMPUTE: the output's lanes, or "no output", which is not an error (R195,
60_exceptions.md R374). -/
def finishFilter (out : Option (F32 × F32)) (s : State) : State :=
  match out with
  | some (re, im) => finishWith re im true s
  | none => finishWith 0 0 false s

/-- OSC_NEXT (R194). SEL = 3 is BAD_OPERAND before the mode checks (30_encoding.md R135 case 3), a stage
with TRANS_EN = 0 is BAD_OPERAND after them. -/
def execOscNext (sel : BitVec 2) (s : State) : Host.Outcome State Fault Refusal :=
  match stageOfSel sel with
  | none => .next (cmdError codeBadOperand s)
  | some sid =>
    component
      (fun s =>
        if (s.stage sid).transEn then
          match oscNext s.mem sid (s.stage sid) with
          | .error f => .fault f
          | .ok (w, r) => .next (finishWith w.1 w.2 true (s.setStage sid r))
        else .next (cmdError codeBadOperand s))
      s

/-- FILT_COMPUTE (R195). The stage's output goes nowhere but the result registers. -/
def execFiltCompute (sel : BitVec 2) (s : State) : Host.Outcome State Fault Refusal :=
  match stageOfSel sel with
  | none => .next (cmdError codeBadOperand s)
  | some .s0 =>
    component
      (fun s =>
        match filterStage0 (complexArg s) s with
        | .error f => .fault f
        | .ok (s1, out) => .next (finishFilter (out.map fun y => (y.re, y.im)) s1))
      s
  | some .s1 =>
    component
      (fun s =>
        match filterStage1 (realArg s) s with
        | .error f => .fault f
        | .ok (s1, out) => .next (finishFilter (out.map fun y => (y, 0)) s1))
      s
  | some .s2 =>
    component
      (fun s =>
        match filterStage2 (realArg s) s with
        | .error f => .fault f
        | .ok (s1, out) => .next (finishFilter (out.map fun y => (y, 0)) s1))
      s

end Sys2Proof.Machine
end

