-- ==== Sys2Proof/Machine/Pipeline.lean ====
section
/-! DEFINITION. The sample pipeline (40_filter.md R190, R191) and its register twin PIPE_PUSH (R192). -/

namespace Sys2Proof.Machine

/-- `PipelineStep(re, im)` (R190): stage 0, the magnitude, stages 1 and 2, the slicer, the receiver. A
stage with no output ends the step there. -/
def pipelineStep (x : C32) (s : State) : Except Fault State :=
  match filterStage0 x (count .sample s) with
  | .error f => .error f
  | .ok (s1, none) => .ok s1
  | .ok (s1, some o0) =>
    match filterStage1 (cmag o0) s1 with
    | .error f => .error f
    | .ok (s2, none) => .ok s2
    | .ok (s2, some o1) =>
      match filterStage2 o1 s2 with
      | .error f => .error f
      | .ok (s3, none) => .ok s3
      | .ok (s3, some o2) => .ok (rxPush (slice o2) s3)

/-- PIPE_PUSH (R192): NOT_RUNNING when RUN = 0, and no other mode check (45_control.md R342). -/
def execPipePush (s : State) : Host.Outcome State Fault Refusal :=
  if s.ctrl.run then
    match pipelineStep (complexArg s) s with
    | .error f => .fault f
    | .ok s1 => .next (finish s1)
  else .next (cmdError codeNotRunning s)

end Sys2Proof.Machine
end

