-- ==== Sys2Proof/Machine/Dispatch.lean ====
section
/-! DEFINITION. The meaning of every command, by constructor. The command word and its opcode are
already in CMD and CMD_STATUS.OPCODE when `exec` runs (45_control.md R340; `latchCommand`). -/

namespace Sys2Proof.Machine

def exec (i : Instr) (s : State) : Host.Outcome State Fault Refusal :=
  match i with
  | .nop => Sys2Proof.Machine.execNop s
  | .configure => Sys2Proof.Machine.execConfigure s
  | .pipePush => Sys2Proof.Machine.execPipePush s
  | .rxPushLevel lvl => Sys2Proof.Machine.execRxPushLevel lvl s
  | .rxAbort => Sys2Proof.Machine.execRxAbort s
  | .oscNext sel => Sys2Proof.Machine.execOscNext sel s
  | .filtCompute sel => Sys2Proof.Machine.execFiltCompute sel s
  | .trkExtend => Sys2Proof.Machine.execTrkExtend s
  | .trkStartSymbol => Sys2Proof.Machine.execTrkStartSymbol s
  | .trkCount => Sys2Proof.Machine.execTrkCount s
  | .trkLockAvg => Sys2Proof.Machine.execTrkLockAvg s
  | .trkResetAvg => Sys2Proof.Machine.execTrkResetAvg s
  | .manAdd lvl => Sys2Proof.Machine.execManAdd lvl s
  | .manPopAll => Sys2Proof.Machine.execManPopAll s
  | .manSize => Sys2Proof.Machine.execManSize s
  | .manReset => Sys2Proof.Machine.execManReset s
  | .crcPush n acc => Sys2Proof.Machine.execCrcPush n acc s
  | .crcFinalize => Sys2Proof.Machine.execCrcFinalize s
  | .crcReset => Sys2Proof.Machine.execCrcReset s
  | .crcSelect sel => Sys2Proof.Machine.execCrcSelect sel s

end Sys2Proof.Machine
end

