-- ==== Sys2Proof/Machine/Bus.lean ====
section
/-! DEFINITION. The register bus: the address map (20_memory.md R107), what a read of each register
returns and what a write does (10_state.md R30 to R59, 20_memory.md R100 to R108), the CTRL write
(45_control.md R343) and the issue of a command (R340). -/

namespace Sys2Proof.Machine

/-- The stage numbered `n` (R107). -/
def stageOfNat (n : Nat) : Option StageId :=
  match n with
  | 0 => some .s0
  | 1 => some .s1
  | 2 => some .s2
  | _ => none

/-- 0x000 to 0x034 (R107). -/
def generalReg (n : Nat) : Option Reg :=
  match n with
  | 0x000 => some (.ro .id)
  | 0x004 => some (.rw .ctrl)
  | 0x008 => some (.ro .status)
  | 0x00C => some (.ro .err)
  | 0x010 => some (.rw .evtStatus)
  | 0x014 => some (.rw .evtEnable)
  | 0x020 => some (.rw .cmd)
  | 0x024 => some (.rw .arg0)
  | 0x028 => some (.rw .arg1)
  | 0x02C => some (.ro .res0)
  | 0x030 => some (.ro .res1)
  | 0x034 => some (.ro .cmdStatus)
  | _ => none

/-- The register at an offset of stage `s`'s block (10_state.md R42). -/
def stageReg (s : StageId) (offset : Nat) : Option Reg :=
  match offset with
  | 0x00 => some (.cfg (.ntaps s))
  | 0x04 => some (.cfg (.decim s))
  | 0x08 => some (.cfg (.fs s))
  | 0x0C => some (.cfg (.ftrans s))
  | 0x10 => some (.cfg (.transEn s))
  | 0x20 => some (.ro (.oscN s))
  | 0x24 => some (.ro (.oscIdx s))
  | 0x28 => some (.ro (.dcnt s))
  | _ => none

/-- 0x200 to 0x214 (10_state.md R46 to R50). -/
def rxConfigReg (n : Nat) : Option Reg :=
  match n with
  | 0x200 => some (.cfg .syncPattern)
  | 0x204 => some (.cfg .syncWidth)
  | 0x208 => some (.cfg .estNum)
  | 0x20C => some (.cfg .estDen)
  | 0x210 => some (.cfg .chRange)
  | 0x214 => some (.cfg .chanVendor)
  | _ => none

/-- The register at an offset of vendor `v`'s block (10_state.md R51). -/
def vendorReg (v : BitVec 2) (offset : Nat) : Option Reg :=
  match offset with
  | 0x00 => some (.cfg (.poly v))
  | 0x04 => some (.cfg (.finalXor v))
  | 0x08 => some (.cfg (.planLen v))
  | 0x10 => some (.cfg (.plan v 0))
  | 0x14 => some (.cfg (.plan v 1))
  | 0x18 => some (.cfg (.plan v 2))
  | 0x1C => some (.cfg (.plan v 3))
  | 0x20 => some (.cfg (.plan v 4))
  | 0x24 => some (.cfg (.plan v 5))
  | 0x28 => some (.cfg (.plan v 6))
  | 0x2C => some (.cfg (.plan v 7))
  | _ => none

/-- 0x400 to 0x43C, and 0x4C0 to 0x51C (10_state.md R52 to R59). -/
def runtimeReg (n : Nat) : Option Reg :=
  match n with
  | 0x400 => some (.ro .rxState)
  | 0x404 => some (.ro .syncShift)
  | 0x408 => some (.ro .trkCur)
  | 0x40C => some (.ro .avgNum)
  | 0x410 => some (.ro .avgDen)
  | 0x414 => some (.ro .manStatus)
  | 0x418 => some (.ro .manAcc)
  | 0x41C => some (.ro .crcReg)
  | 0x420 => some (.ro .crcPoly)
  | 0x424 => some (.ro .crcFxor)
  | 0x428 => some (.ro .crcAccLo)
  | 0x42C => some (.ro .crcAccHi)
  | 0x430 => some (.ro .curInfo)
  | 0x434 => some (.ro .curHeader)
  | 0x438 => some (.ro .curTxid)
  | 0x43C => some (.ro .curState)
  | 0x4C0 => some (.ro .msgInfo)
  | 0x4C4 => some (.ro .msgHeader)
  | 0x4C8 => some (.ro .msgTxid)
  | 0x4CC => some (.ro .msgState)
  | 0x4D0 => some (.ro .msgDevid)
  | 0x500 => some (.ro (.counter .sample))
  | 0x504 => some (.ro (.counter .level))
  | 0x508 => some (.ro (.counter .sync))
  | 0x50C => some (.ro (.counter .msg))
  | 0x510 => some (.ro (.counter .crcErr))
  | 0x514 => some (.ro (.counter .chanErr))
  | 0x518 => some (.ro (.counter .zeroTxid))
  | 0x51C => some (.ro (.counter .manErr))
  | _ => none

/-- The first or second word of an 8-byte entry. -/
def laneOfOffset (offset : Nat) : Lane := if offset % 8 < 4 then .first else .second

/-- The COEF, OSC_TAB and SHIFT windows, entries at and beyond MAX_TAPS or MAX_OSC unmapped (R107). -/
def ramReg (maxTaps maxOsc n : Nat) : Option Reg :=
  if n < 0x4000 then
    (stageOfNat (n / 0x1000 - 1)).bind fun s =>
      if n % 0x1000 / 4 < maxTaps then some (.cfg (.coef s (n % 0x1000 / 4))) else none
  else if n < 0xA000 then
    (stageOfNat ((n - 0x4000) / 0x2000)).bind fun s =>
      if n % 0x2000 / 8 < maxOsc then some (.cfg (.oscTab s (n % 0x2000 / 8) (laneOfOffset n))) else none
  else
    (stageOfNat ((n - 0xA000) / 0x2000)).bind fun s =>
      if n % 0x2000 / 8 < maxTaps then some (.ro (.shift s (n % 0x2000 / 8) (laneOfOffset n))) else none

/-- The address map (R107); `none` is a misaligned (R102) or unmapped address. -/
def regAt (a : Addr) : Option Reg :=
  let n := a.toNat
  if n % 4 ≠ 0 then none
  else if n < 0x100 then generalReg n
  else if n < 0x200 then (stageOfNat ((n - 0x100) / 0x40)).bind fun s => stageReg s ((n - 0x100) % 0x40)
  else if n < 0x300 then rxConfigReg n
  else if n < 0x400 then vendorReg (BitVec.ofNat 2 ((n - 0x300) / 0x40)) ((n - 0x300) % 0x40)
  else if n < 0x440 then runtimeReg n
  else if n < 0x4C0 then some (.ro (.trkSlot (BitVec.ofNat 5 ((n - 0x440) / 4))))
  else if n < 0x1000 then runtimeReg n
  else ramReg Config.maxTaps Config.maxOsc n

/-- ID (10_state.md R31). -/
def idWord : Word := 0x53450001

/-- STATUS (10_state.md R35). -/
def statusWord (s : State) : Word :=
  bitAt 0 s.ctrl.configured ||| bitAt 1 s.ctrl.run ||| bitAt 2 s.ctrl.fatal ||| bitAt 3 s.irq

/-- ERR (10_state.md R36). -/
def errWord (c : Ctrl) : Word := fieldAt 0 c.errCode ||| fieldAt 8 c.errIndex

/-- CMD_STATUS (10_state.md R41). -/
def cmdStatusWord (c : CmdRegs) : Word := fieldAt 0 c.code ||| bitAt 8 c.valid ||| fieldAt 24 c.opcode

/-- RX_STATE (10_state.md R52). -/
def rxStateWord (r : RxRegs) : Word :=
  fieldAt 0 r.state ||| fieldAt 8 r.planIdx ||| bitAt 16 r.prevLevel ||| bitAt 24 r.msgActive

/-- MAN_STATUS (10_state.md R55). -/
def manStatusWord (m : Manchester) : Word :=
  bitAt 0 m.pendLevel ||| bitAt 1 m.pendValid ||| fieldAt 8 m.cnt

/-- CUR_INFO (10_state.md R57). -/
def curInfoWord (c : CurMsg) : Word :=
  fieldAt 0 c.vendor ||| fieldAt 8 c.channel ||| bitAt 16 c.hdrPresent

/-- MSG_INFO (10_state.md R58). -/
def msgInfoWord (m : OutMsg) : Word :=
  fieldAt 0 m.vendor ||| fieldAt 8 m.channel ||| bitAt 16 m.hdrPresent ||| bitAt 17 m.devidPresent |||
    bitAt 24 m.valid

/-- PLAN[e] (30_encoding.md R145). -/
def planWord (k : PlanEntry) : Word := fieldAt 0 k.kind ||| bitAt 4 k.zchk ||| fieldAt 8 k.width

/-- CH_RANGE (10_state.md R49). -/
def chRangeWord (c : RxConfig) : Word := fieldAt 0 c.chMin ||| fieldAt 8 c.chMax

/-- The word of SHIFT[sid][t] that a lane holds; `.im` of a real stage reads +0.0 (10_state.md R45). -/
def storedShiftWord (s : State) (sid : StageId) (t : Nat) (l : Lane) : Option Word :=
  match sid, l with
  | .s0, .first => s.shift0[t]?.map C32.re
  | .s0, .second => s.shift0[t]?.map C32.im
  | .s1, .first => s.shift1[t]?
  | .s1, .second => some 0
  | .s2, .first => s.shift2[t]?
  | .s2, .second => some 0

/-- Whether a lane of a shift register is the constant +0.0 (10_state.md R45). -/
def laneIsZero (sid : StageId) (l : Lane) : Bool := sid != .s0 && l == .second

/-- How many entries of a stage's shift register the spec gives the value of, as far as they are written:
those that take part in the datapath and have done so since they were last written (10_state.md R45). In
every state a run reaches this is `shiftLive`. -/
def specifiedTaps (r : StageRegs) : Nat := min r.shiftLive r.ntaps.toNat

/-- A bus read of SHIFT (10_state.md R45, 93_implementation_defined.md I2): the entry's word where it is
written and specified; a free value otherwise, the same one until the entry is written. -/
def readShift (s : State) (sid : StageId) (t : Nat) (l : Lane) : Word :=
  match storedShiftWord s sid t l with
  | none => Config.unwrittenWord s.epoch (shiftAddr sid t l)
  | some w =>
    if laneIsZero sid l ∨ t < specifiedTaps (s.stage sid) then w
    else Config.staleShiftWord ((s.stage sid).shiftStamps.getD t 0) (shiftAddr sid t l)

/-- A bus read of a COEF or OSC_TAB word: what the host wrote, or a free value (10_state.md R60, I2). -/
def readRam (s : State) (a : Nat) : Word := (s.mem.readWord a).getD (Config.unwrittenWord s.epoch a)

/-- A bus read of TRK_SLOT[i]: slots at and beyond W, and offset 0x4BC, read 0 (10_state.md R54). -/
def readSlot (t : Tracker) (i : BitVec 5) : Word :=
  if i.toNat < t.width then (t.slot i.toNat).setWidth 32 else 0

/-- The value of an RO register (10_state.md R31 to R59). -/
def readRo (r : RoReg) (s : State) : Word :=
  match r with
  | .id => idWord
  | .status => statusWord s
  | .err => errWord s.ctrl
  | .res0 => s.cmd.res0
  | .res1 => s.cmd.res1
  | .cmdStatus => cmdStatusWord s.cmd
  | .oscN sid => (s.stage sid).oscN
  | .oscIdx sid => (s.stage sid).oscIdx
  | .dcnt sid => (s.stage sid).dcnt
  | .rxState => rxStateWord s.rx
  | .syncShift => s.rx.syncShift
  | .trkCur => fieldAt 0 s.trk.cur
  | .avgNum => s.trk.avgNum
  | .avgDen => fieldAt 0 s.trk.avgDen
  | .manStatus => manStatusWord s.man
  | .manAcc => s.man.acc
  | .crcReg => fieldAt 0 s.crc.reg
  | .crcPoly => fieldAt 0 s.crc.poly
  | .crcFxor => fieldAt 0 s.crc.fxor
  | .crcAccLo => s.crc.acc.extractLsb' 0 32
  | .crcAccHi => s.crc.acc.extractLsb' 32 32
  | .curInfo => curInfoWord s.cur
  | .curHeader => s.cur.header
  | .curTxid => s.cur.txid
  | .curState => fieldAt 0 s.cur.state
  | .trkSlot i => readSlot s.trk i
  | .msgInfo => msgInfoWord s.msg
  | .msgHeader => s.msg.header
  | .msgTxid => s.msg.txid
  | .msgState => fieldAt 0 s.msg.state
  | .msgDevid => s.msg.devid
  | .counter c => s.counters.get c
  | .shift sid t l => readShift s sid t l

/-- The value of an RW register; SOFT_RESET reads 0 (10_state.md R34, R37 to R39). -/
def readRw (r : RwReg) (s : State) : Word :=
  match r with
  | .ctrl => bitAt 0 s.ctrl.run
  | .evtStatus => fieldAt 0 s.evt.status
  | .evtEnable => fieldAt 0 s.evt.enable
  | .cmd => s.cmd.cmd
  | .arg0 => s.cmd.arg0
  | .arg1 => s.cmd.arg1

/-- The value of a CFG register or RAM word: the bits the host wrote, reserved bits 0 (10_state.md R30). -/
def readCfg (r : CfgReg) (s : State) : Word :=
  match r with
  | .ntaps sid => (s.stage sid).ntaps
  | .decim sid => (s.stage sid).decim
  | .fs sid => (s.stage sid).fs
  | .ftrans sid => (s.stage sid).ftrans
  | .transEn sid => bitAt 0 (s.stage sid).transEn
  | .syncPattern => s.cfg.syncPattern
  | .syncWidth => fieldAt 0 s.cfg.syncWidth
  | .estNum => s.cfg.estNum
  | .estDen => fieldAt 0 s.cfg.estDen
  | .chRange => chRangeWord s.cfg
  | .chanVendor => s.cfg.chanVendor
  | .poly v => fieldAt 0 (s.cfg.vendor v).poly
  | .finalXor v => fieldAt 0 (s.cfg.vendor v).finalXor
  | .planLen v => fieldAt 0 (s.cfg.vendor v).planLen
  | .plan v e => planWord ((s.cfg.vendor v).plan.get e.toFin)
  | .coef sid t => readRam s (coefAddr sid t)
  | .oscTab sid k l => readRam s (oscAddr sid k l)

/-- The value a bus read of a mapped word returns. No read has a side effect (20_memory.md R108). -/
def readReg (r : Reg) (s : State) : Word :=
  match r with
  | .ro r => readRo r s
  | .rw r => readRw r s
  | .cfg r => readCfg r s

/-- The registers of a stage after a CFG write to one of them; `f` is the change. -/
def updateStage (sid : StageId) (f : StageRegs → StageRegs) (s : State) : State :=
  s.setStage sid (f (s.stage sid))

/-- The registers of a vendor after a CFG write to one of them; `f` is the change. -/
def updateVendor (v : BitVec 2) (f : Vendor → Vendor) (s : State) : State :=
  { s with cfg := s.cfg.setVendor v (f (s.cfg.vendor v)) }

/-- A write to NTAPS. The entries of SHIFT it takes out of the datapath keep what they hold, which the spec
no longer gives (10_state.md R45). -/
def writeNtaps (w : Word) (r : StageRegs) : StageRegs :=
  { r with ntaps := w, shiftLive := min r.shiftLive w.toNat }

/-- Stores the bits of a CFG write within the field's width (10_state.md R30, R42 to R51). -/
def storeCfg (r : CfgReg) (w : Word) (s : State) : State :=
  match r with
  | .ntaps sid => updateStage sid (writeNtaps w) s
  | .decim sid => updateStage sid (fun r => { r with decim := w }) s
  | .fs sid => updateStage sid (fun r => { r with fs := w }) s
  | .ftrans sid => updateStage sid (fun r => { r with ftrans := w }) s
  | .transEn sid => updateStage sid (fun r => { r with transEn := w.getLsbD 0 }) s
  | .syncPattern => { s with cfg := { s.cfg with syncPattern := w } }
  | .syncWidth => { s with cfg := { s.cfg with syncWidth := w.extractLsb' 0 6 } }
  | .estNum => { s with cfg := { s.cfg with estNum := w } }
  | .estDen => { s with cfg := { s.cfg with estDen := w.extractLsb' 0 16 } }
  | .chRange => { s with cfg := { s.cfg with chMin := w.extractLsb' 0 4, chMax := w.extractLsb' 8 4 } }
  | .chanVendor => { s with cfg := { s.cfg with chanVendor := w } }
  | .poly v => updateVendor v (fun x => { x with poly := w.extractLsb' 0 16 }) s
  | .finalXor v => updateVendor v (fun x => { x with finalXor := w.extractLsb' 0 16 }) s
  | .planLen v => updateVendor v (fun x => { x with planLen := w.extractLsb' 0 4 }) s
  | .plan v e =>
    updateVendor v
      (fun x =>
        { x with
          plan := x.plan.setIfInBounds e.toNat
            { kind := w.extractLsb' 0 3, zchk := w.getLsbD 4, width := w.extractLsb' 8 6 } })
      s
  | .coef sid t => { s with mem := s.mem.writeWord (coefAddr sid t) w }
  | .oscTab sid k l => { s with mem := s.mem.writeWord (oscAddr sid k l) w }

/-- An accepted CFG write: the bits are stored and STATUS.CONFIGURED is cleared (20_memory.md R105). -/
def writeCfg (r : CfgReg) (w : Word) (s : State) : State :=
  let s1 := storeCfg r w s
  { s1 with ctrl := { s1.ctrl with configured := false } }

/-- `CtrlWrite(w)` (45_control.md R343). SOFT_RESET is `Reset()`, and the write itself completes with its
response (70_reset_and_hazards.md R411). -/
def ctrlWrite (w : Word) (s : State) : State :=
  if w.getLsbD 1 then { resetBlock s with busOut := s.busOut }
  else { s with ctrl := { s.ctrl with run := w.getLsbD 0 && s.ctrl.configured && !s.ctrl.fatal } }

/-- CMD and CMD_STATUS.OPCODE take the command word, whatever becomes of the command (45_control.md R340,
30_encoding.md R141). -/
def latchCommand (w : Word) (s : State) : State :=
  { s with cmd := { s.cmd with cmd := w, opcode := opcField w } }

/-- The completion code of a rejected command word (30_encoding.md R135). -/
def decodeErrorCode : DecodeError → BitVec 4
  | .badOpcode => codeBadOpcode
  | .badOperand => codeBadOperand

/-- `CmdWrite(w)` (45_control.md R340): latch, decode, then run the command. -/
def cmdWrite (w : Word) (s : State) : Host.Outcome State Fault Refusal :=
  match decode w with
  | .error e => .next (cmdError (decodeErrorCode e) (latchCommand w s))
  | .ok i => exec i (latchCommand w s)

/-- A write to an RW register (10_state.md R34, R37 to R39, 60_exceptions.md R380). -/
def writeRw (r : RwReg) (w : Word) (s : State) : Host.Outcome State Fault Refusal :=
  match r with
  | .ctrl => .next (ctrlWrite w s)
  | .evtStatus => .next { s with evt := { s.evt with status := s.evt.status &&& ~~~(w.extractLsb' 0 8) } }
  | .evtEnable => .next { s with evt := { s.evt with enable := w.extractLsb' 0 8 } }
  | .cmd => cmdWrite w s
  | .arg0 => .next { s with cmd := { s.cmd with arg0 := w } }
  | .arg1 => .next { s with cmd := { s.cmd with arg1 := w } }

/-- The response of this step's bus access, on the output port (20_memory.md R100). -/
def respond (r : BusResp) (s : State) : State := { s with busOut := some r }

/-- A bus read: the word, or ERROR with data 0, and no other change (20_memory.md R104, R108). -/
def busRead (a : Addr) (s : State) : State :=
  match regAt a with
  | none => respond (.read .error 0) s
  | some r => respond (.read .okay (readReg r s)) s

/-- A bus write (20_memory.md R102 to R105, R108): ERROR and no effect for a partial, misaligned or
unmapped access and for a CFG write while RUN = 1; a write to an RO register stores nothing. -/
def busWrite (a : Addr) (w : Word) (strobes : BitVec 4) (s : State) : Host.Outcome State Fault Refusal :=
  if strobes = 0xF then
    match regAt a with
    | none => .next (respond (.write .error) s)
    | some (.ro _) => .next (respond (.write .okay) s)
    | some (.rw r) => writeRw r w (respond (.write .okay) s)
    | some (.cfg r) =>
      if s.ctrl.run then .next (respond (.write .error) s)
      else .next (writeCfg r w (respond (.write .okay) s))
  else .next (respond (.write .error) s)

/-- One bus access (20_memory.md R100). -/
def busAccess (op : BusOp) (s : State) : Host.Outcome State Fault Refusal :=
  match op with
  | .read a => .next (busRead a s)
  | .write a w strobes => busWrite a w strobes s

end Sys2Proof.Machine
end

