-- ==== Sys2Proof/Machine/Turns.lean ====
section
/-! DEFINITION. One model step in its three kinds (00_scope.md R7): a bus access, an accepted sample, a
reset; and the placing of a command as the host's next access. `Step.lean` only calls these. -/

namespace Sys2Proof.Machine

/-- The output ports are strobes: they speak for one step (00_scope.md R10). -/
def quiet (s : State) : State := { s with busOut := none, msgOut := none }

/-- The host's turn: its next bus access is made, in the order it issues them (20_memory.md R109). With
none to make, nothing happens. -/
def hostTurn (s : State) : Host.Outcome State Fault Refusal :=
  match s.bus with
  | [] => .next s
  | op :: ops => busAccess op { s with bus := ops }

/-- The producer's turn: its next sample is accepted if `s_ready` is high; otherwise the producer holds
it (40_filter.md R191). -/
def producerTurn (s : State) : Host.Outcome State Fault Refusal :=
  match s.samples with
  | [] => .next s
  | x :: xs => if s.sReady then outcomeOf (pipelineStep x { s with samples := xs }) else .next s

/-- The turn of one agent (00_scope.md R7, 70_reset_and_hazards.md R410). -/
def takeTurn (t : Turn) (s : State) : Host.Outcome State Fault Refusal :=
  match t with
  | .host => hostTurn s
  | .producer => producerTurn s
  | .reset => .next (resetBlock s)

/-- A step: the next scheduled turn. With no turn scheduled no agent acts and only the strobes fall. -/
def stepOnce (s : State) : Host.Outcome State Fault Refusal :=
  match s.turns with
  | [] => .next (quiet s)
  | t :: ts => takeTurn t { quiet s with turns := ts }

/-- The bus address of CMD (10_state.md R38). -/
def cmdAddr : Addr := 0x020

/-- The host's next access is made the CMD write of `word`, and the host is given the next turn. -/
def placeCommand (word : Word) (s : State) : State :=
  { s with turns := .host :: s.turns, bus := .write cmdAddr word 0xF :: s.bus }

end Sys2Proof.Machine
end

