-- ==== Sys2Proof/Machine/Step.lean ====
section
/-! DEFINITION. The step function of the block at its host interface (00_scope.md R7), and the placing of
a command where the next step runs it. -/

namespace Sys2Proof.Machine

/-- One step (00_scope.md R7, 20_memory.md R109). -/
def step (s : State) : Host.Outcome State Fault Refusal := stepOnce s

/-- `s` with the command word whose low `nbits` bits are those of `w` as the host's next bus access, a
full-width write to CMD, and the host's turn next: the block fetches nothing (20_memory.md R112), so this
is how a command comes to run (log entry 2). -/
def State.withFetchWord (s : State) (nbits w : Nat) : State :=
  placeCommand (BitVec.ofNat 32 (w % 2 ^ nbits)) s

end Sys2Proof.Machine
end

