-- ==== Sys2Proof/Safety.lean ====
section
/-! DEFINITION. What claims about the block are stated in: the modes a command runs in, the tables a
started block needs (70_reset_and_hazards.md R414), the consistency of its state (45_control.md R349,
60_exceptions.md R376), and runs of one command. -/

namespace Sys2Proof.Machine

/-- The mode a component command needs: RUN = 0 and CONFIGURED = 1 (45_control.md R342). -/
abbrev State.Paused (s : State) : Prop := s.ctrl.run = false ∧ s.ctrl.configured = true

/-- A step or a command that goes on. -/
def Completes (o : Host.Outcome State Fault Refusal) : Prop := ∃ t, o = .next t

/-- Every table word the datapath of stage `sid` can read has been written since reset: COEF[sid][t] for
t < NTAPS, and with TRANS_EN = 1 the lanes of OSC_TAB[sid][k] it reads for k < OSC_N
(70_reset_and_hazards.md R414). -/
def State.StageTablesWritten (s : State) (sid : StageId) : Prop :=
  (∀ t, t < tapCount (s.stage sid) → (s.mem.readWord (coefAddr sid t)).isSome) ∧
    ((s.stage sid).transEn = true →
      ∀ k, k < (s.stage sid).oscN.toNat → ∀ l, l = .first ∨ sid = .s0 →
        (s.mem.readWord (oscAddr sid k l)).isSome)

/-- Every table word the pipeline can read has been written since reset (70_reset_and_hazards.md R414). -/
def State.TablesWritten (s : State) : Prop := ∀ sid, s.StageTablesWritten sid

/-- The bus address of a register or RAM word (20_memory.md R107). -/
def regAddress : Reg → Nat
  | .ro .id => 0x000
  | .rw .ctrl => 0x004
  | .ro .status => 0x008
  | .ro .err => 0x00C
  | .rw .evtStatus => 0x010
  | .rw .evtEnable => 0x014
  | .rw .cmd => 0x020
  | .rw .arg0 => 0x024
  | .rw .arg1 => 0x028
  | .ro .res0 => 0x02C
  | .ro .res1 => 0x030
  | .ro .cmdStatus => 0x034
  | .cfg (.ntaps s) => 0x100 + 0x40 * s.num
  | .cfg (.decim s) => 0x104 + 0x40 * s.num
  | .cfg (.fs s) => 0x108 + 0x40 * s.num
  | .cfg (.ftrans s) => 0x10C + 0x40 * s.num
  | .cfg (.transEn s) => 0x110 + 0x40 * s.num
  | .ro (.oscN s) => 0x120 + 0x40 * s.num
  | .ro (.oscIdx s) => 0x124 + 0x40 * s.num
  | .ro (.dcnt s) => 0x128 + 0x40 * s.num
  | .cfg .syncPattern => 0x200
  | .cfg .syncWidth => 0x204
  | .cfg .estNum => 0x208
  | .cfg .estDen => 0x20C
  | .cfg .chRange => 0x210
  | .cfg .chanVendor => 0x214
  | .cfg (.poly v) => 0x300 + 0x40 * v.toNat
  | .cfg (.finalXor v) => 0x304 + 0x40 * v.toNat
  | .cfg (.planLen v) => 0x308 + 0x40 * v.toNat
  | .cfg (.plan v e) => 0x310 + 0x40 * v.toNat + 4 * e.toNat
  | .ro .rxState => 0x400
  | .ro .syncShift => 0x404
  | .ro .trkCur => 0x408
  | .ro .avgNum => 0x40C
  | .ro .avgDen => 0x410
  | .ro .manStatus => 0x414
  | .ro .manAcc => 0x418
  | .ro .crcReg => 0x41C
  | .ro .crcPoly => 0x420
  | .ro .crcFxor => 0x424
  | .ro .crcAccLo => 0x428
  | .ro .crcAccHi => 0x42C
  | .ro .curInfo => 0x430
  | .ro .curHeader => 0x434
  | .ro .curTxid => 0x438
  | .ro .curState => 0x43C
  | .ro (.trkSlot i) => 0x440 + 4 * i.toNat
  | .ro .msgInfo => 0x4C0
  | .ro .msgHeader => 0x4C4
  | .ro .msgTxid => 0x4C8
  | .ro .msgState => 0x4CC
  | .ro .msgDevid => 0x4D0
  | .ro (.counter .sample) => 0x500
  | .ro (.counter .level) => 0x504
  | .ro (.counter .sync) => 0x508
  | .ro (.counter .msg) => 0x50C
  | .ro (.counter .crcErr) => 0x510
  | .ro (.counter .chanErr) => 0x514
  | .ro (.counter .zeroTxid) => 0x518
  | .ro (.counter .manErr) => 0x51C
  | .cfg (.coef s t) => coefAddr s t
  | .cfg (.oscTab s k l) => oscAddr s k l
  | .ro (.shift s t l) => shiftAddr s t l

/-- The words that an implementation has: every register, and the RAM entries below MAX_TAPS and MAX_OSC
(20_memory.md R107). -/
def regExists : Reg → Prop
  | .cfg (.coef _ t) => t < Config.maxTaps
  | .cfg (.oscTab _ k _) => k < Config.maxOsc
  | .ro (.shift _ t _) => t < Config.maxTaps
  | _ => True

/-- What a stage of a configured block keeps: OSC_N is the period of R346 (0 without translation),
`OSC_IDX < OSC_N` with translation and 0 without, `DCNT < DECIM`, and every entry of SHIFT below NTAPS is a
specified one (10_state.md R42, R45, 45_control.md R349). -/
structure StageConsistent (r : StageRegs) : Prop where
  oscN : r.oscN = if r.transEn then BitVec.ofNat 32 (oscPeriod r) else 0
  oscIdx : if r.transEn then r.oscIdx.toNat < r.oscN.toNat else r.oscIdx = 0
  dcnt : r.dcnt.toNat < r.decim.toNat
  live : r.shiftLive = r.ntaps.toNat

/-- What holds while CONFIGURED = 1 (45_control.md R349): the configuration passes CONFIGURE's checks, the
run-time state is in range of it, and the receiver is at an entry of a legal plan. -/
structure ConfiguredConsistent (s : State) : Prop where
  checked : checkConfig Config.maxTaps Config.maxOsc s = none
  stages : ∀ sid, StageConsistent (s.stage sid)
  shift0 : s.stage0.ntaps.toNat ≤ s.shift0.length
  shift1 : s.stage1.ntaps.toNat ≤ s.shift1.length
  shift2 : s.stage2.ntaps.toNat ≤ s.shift2.length
  window : s.trk.width + 1 = s.cfg.syncWidth.toNat
  cur : s.trk.cur.toNat < s.trk.width
  avgDen : s.trk.avgDen ≠ 0
  syncShift : s.rx.syncShift.toNat ≤ mask s.cfg.syncWidth.toNat
  planKind : stHeader.toNat ≤ s.rx.state.toNat → s.rx.state.toNat ≤ stSensor.toNat →
    s.rx.planIdx.toNat < (s.cfg.vendor s.cur.vendor).planLen.toNat ∧ s.planEntry.kind = s.rx.state

/-- The consistency every step keeps. RUN = 1 needs CONFIGURED = 1 (10_state.md R34), the fatal state is
never reached (60_exceptions.md R376), MSG_ACTIVE and the in-progress message go with the state
(90_conflicts.md C7), the device id is always absent (44_receiver.md R314), slots at and beyond the
window hold 0 (10_state.md R54), no entry of SHIFT at or beyond NTAPS is a specified one (R45), and the RAM
words are in canonical form. -/
structure State.Consistent (s : State) : Prop where
  run : s.ctrl.run = true → s.ctrl.configured = true
  fatal : s.ctrl.fatal = false
  state : s.rx.state.toNat ≤ stCrc.toNat
  manCnt : s.man.cnt.toNat ≤ 32
  idle : s.rx.state.toNat ≤ stChannel.toNat →
    s.rx.msgActive = false ∧ s.rx.planIdx = 0 ∧ s.cur = CurMsg.reset
  active : stHeader.toNat ≤ s.rx.state.toNat → s.rx.msgActive = true
  devid : s.msg.devidPresent = false ∧ s.msg.devid = 0
  slots : ∀ i, s.trk.width ≤ i → s.trk.slot i = 0
  live : ∀ sid, (s.stage sid).shiftLive ≤ (s.stage sid).ntaps.toNat
  mem : s.mem.wf
  configured : s.ctrl.configured = true → ConfiguredConsistent s

/-- The state after the command `i` has run `n` times, if every one of them goes on. -/
def repeatExec (i : Instr) : Nat → State → Option State
  | 0, s => some s
  | n + 1, s =>
    match exec i s with
    | .next t => repeatExec i n t
    | .fault _ => none
    | .refused _ => none

end Sys2Proof.Machine
end

