-- ==== Sys2Proof/Certificates/Slice0/Obligations.lean ====
section
/-! DEFINITION. The statements made about the model, from the numbered rules of the spec. Each docstring
names the rule it formalises. A result is written out by the rule's own formula, and the frame by
`{ s with … }`: every field of the state that is not named there is unchanged. -/

open Sys2Proof Sys2Proof.Machine

namespace Sys2Proof.Claims

/-- CMD_STATUS of a command that returns no result and ends OK (30_encoding.md R141). -/
def done (s : State) : CmdRegs := { s.cmd with code := 0, valid := false }

/-- The command registers of a command that returns results and ends OK (30_encoding.md R141). -/
def results (s : State) (res0 res1 : Word) (valid : Bool) : CmdRegs :=
  { s.cmd with res0 := res0, res1 := res1, valid := valid, code := 0 }

/-- The state after `CmdError(code)` (45_control.md R341). -/
def turnedAway (s : State) (code : BitVec 4) : State :=
  { s with cmd := { s.cmd with code := code, valid := false }
           evt := { s.evt with status := s.evt.status ||| 0x80 } }

/-- The opcodes of the opcode map (30_encoding.md R134). -/
def opcodes : List Nat :=
  [0x00, 0x01, 0x02, 0x03, 0x04, 0x10, 0x11, 0x20, 0x21, 0x22, 0x23, 0x24, 0x30, 0x31, 0x32, 0x33, 0x40,
    0x41, 0x42, 0x43]

/-- A command that needs RUN = 0 and CONFIGURED = 1 (45_control.md R342). -/
def NeedsPause (i : Instr) : Prop := i ≠ .nop ∧ i ≠ .configure ∧ i ≠ .pipePush

/-- COEF[sid][t] where it is written. -/
def coef (s : State) (sid : StageId) (t : Nat) : F32 := (s.mem.readWord (coefAddr sid t)).getD 0

/-- A lane of OSC_TAB[sid][k] where it is written. -/
def osc (s : State) (sid : StageId) (k : Nat) (l : Lane) : F32 := (s.mem.readWord (oscAddr sid k l)).getD 0

/-- The phase index after one OscNext (40_filter.md R172). -/
def nextPhase (r : StageRegs) : Word := BitVec.ofNat 32 ((r.oscIdx.toNat + 1) % r.oscN.toNat)

/-- A stage after one FilterCompute: the phase index moves with TRANS_EN, the decimation counter comes
round at DECIM (40_filter.md R181). -/
def computedStage (r : StageRegs) : StageRegs :=
  { r with
    oscIdx := if r.transEn then nextPhase r else r.oscIdx
    dcnt := if r.dcnt + 1 = r.decim then 0 else r.dcnt + 1 }

/-- The shift register of `n` taps after a shift and the store of `x` at index 0 (40_filter.md R181). -/
def shifted {α : Type} (n : Nat) (sh : List α) (x : α) : List α := x :: (sh.take (n - 1) ++ sh.drop n)

/-- The inner product of real taps and samples, in R184's order: the first product, then each further
product added in ascending index. -/
def realProduct (c x : Nat → F32) (n : Nat) : F32 :=
  (List.range' 1 (n - 1)).foldl (fun acc t => fadd acc (fmul (c t) (x t))) (fmul (c 0) (x 0))

/-- The inner product of real taps and complex samples, in R184's order. -/
def complexProduct (c : Nat → F32) (x : Nat → C32) (n : Nat) : C32 :=
  (List.range' 1 (n - 1)).foldl (fun acc t => cadd acc (cscale (c t) (x t))) (cscale (c 0) (x 0))

/-- What FILT_COMPUTE does on a real stage whose registers and shift register are `regs` and `sh`
(40_filter.md R181, R184, R195). -/
def RealStageComputes (sel : BitVec 2) (sid : StageId) (regs : State → StageRegs) (sh : State → List F32)
    (frame : State → StageRegs → List F32 → CmdRegs → State) : Prop :=
  ∀ s : State, s.Paused → s.StageTablesWritten sid → 1 ≤ (regs s).ntaps.toNat →
    (regs s).ntaps.toNat ≤ (sh s).length →
    ((regs s).transEn = true → (regs s).oscIdx.toNat < (regs s).oscN.toNat) →
      let n := (regs s).ntaps.toNat
      let x := if (regs s).transEn then fmul s.cmd.arg0 (osc s sid (regs s).oscIdx.toNat .first) else s.cmd.arg0
      let sh1 := shifted n (sh s) x
      let y := realProduct (coef s sid) (fun t => sh1.getD t 0) n
      exec (.filtCompute sel) s =
        .next (frame s (computedStage (regs s)) sh1
          (if (regs s).dcnt + 1 = (regs s).decim then results s y 0 true else results s 0 0 false))

/-- The accumulated bits of a decoder that is fed a list of data bits, newest in bit 0
(42_manchester.md R253). -/
def bitsValue (bits : List Bool) : Nat := bits.foldl (fun n b => 2 * n + b.toNat) 0

/-- The two levels of a data bit: 1 is (low, high), 0 is (high, low) (42_manchester.md R250). -/
def levelsOf (bits : List Bool) : List Level := bits.flatMap fun b => [!b, b]

/-- The `w` low bits of `v`, most significant first. -/
def msbFirst (v : Nat) (w : Nat) : List Bool := (List.range w).map fun i => v.testBit (w - 1 - i)

/-- One bit step of the CRC engine as R270 writes it. -/
def crcBit (c : CrcEngine) (d accumulate : Bool) : CrcEngine :=
  { c with
    reg := ((c.reg <<< 1) ||| if d then 1 else 0) ^^^ (if c.reg.getLsbD 15 then c.poly else 0)
    acc := if accumulate then (c.acc <<< 1) ||| (if d then 1 else 0) else c.acc }

/-- A bit list, most significant first, as a polynomial over GF(2) (43_crc16.md R274). -/
noncomputable def messagePoly (bits : List Bool) : Polynomial (ZMod 2) :=
  bits.foldl (fun p b => p * Polynomial.X + Polynomial.C (if b then 1 else 0)) 0

/-- A 16-bit word read as a polynomial, bit i the coefficient of x^i (43_crc16.md R274). -/
noncomputable def wordPoly (v : BitVec 16) : Polynomial (ZMod 2) :=
  ∑ i ∈ Finset.range 16, Polynomial.monomial i (if v.getLsbD i then 1 else 0)

/-- The state after a frame's end, whatever ended it (44_receiver.md R311). -/
def frameEnded (t : State) : State :=
  { t with
    rx := { t.rx with state := 0, planIdx := 0, syncShift := 0, msgActive := false }
    trk := { t.trk with avgNum := t.cfg.estNum, avgDen := t.cfg.estDen }
    cur := { vendor := 0, channel := 0, hdrPresent := false, header := 0, txid := 0, state := 0 } }

/-- The bits of a CFG register that exist; the others are reserved (10_state.md R30, R42 to R51,
30_encoding.md R145). -/
def cfgBits : CfgReg → Word
  | .ntaps _ => 0xFFFFFFFF
  | .decim _ => 0xFFFFFFFF
  | .fs _ => 0xFFFFFFFF
  | .ftrans _ => 0xFFFFFFFF
  | .transEn _ => 0x00000001
  | .syncPattern => 0xFFFFFFFF
  | .syncWidth => 0x0000003F
  | .estNum => 0xFFFFFFFF
  | .estDen => 0x0000FFFF
  | .chRange => 0x00000F0F
  | .chanVendor => 0xFFFFFFFF
  | .poly _ => 0x0000FFFF
  | .finalXor _ => 0x0000FFFF
  | .planLen _ => 0x0000000F
  | .plan _ _ => 0x00003F17
  | .coef _ _ => 0xFFFFFFFF
  | .oscTab _ _ _ => 0xFFFFFFFF

/-- The legality of a stage's configuration in R346's words; the oscillator bound is stated by the
source's search for an N. -/
def StageLegal (r : StageRegs) : Prop :=
  r.fs.toNat ≠ 0 ∧ r.ntaps.toNat % 2 = 1 ∧ r.ntaps.toNat ≤ Config.maxTaps ∧ r.decim.toNat ≠ 0 ∧
    (r.transEn = true → 2 * r.ftrans.toInt.natAbs ≤ r.fs.toNat ∧
      ∃ n, 1 ≤ n ∧ n ≤ Config.maxOsc ∧ (n * r.ftrans.toInt.natAbs) % r.fs.toNat = 0)

/-- The summed width of the first `n` plan entries of one kind (45_control.md R347). -/
def kindWidth (v : Vendor) (kind : BitVec 3) (n : Nat) : Nat :=
  ∑ e ∈ Finset.range n,
    if (v.plan.getD e PlanEntry.reset).kind = kind then (v.plan.getD e PlanEntry.reset).width.toNat else 0

/-- The legality of a vendor's plan in R347's words. -/
def PlanLegal (v : Vendor) : Prop :=
  v.planLen.toNat ≤ 8 ∧
    (∀ e, e < v.planLen.toNat →
      let k := v.plan.getD e PlanEntry.reset
      (k.kind = 2 ∨ k.kind = 3 ∨ k.kind = 4) ∧ 1 ≤ k.width.toNat ∧ k.width.toNat ≤ 32 ∧
        (k.zchk = true → k.kind = 3)) ∧
    kindWidth v 2 v.planLen.toNat ≤ 32 ∧ kindWidth v 3 v.planLen.toNat ≤ 32 ∧
    kindWidth v 4 v.planLen.toNat ≤ 8

/-- The checks of a stage in R346's order: the error code of R370 with the stage number, and when the check
fails. The oscillator bound is stated by the source's search for an N. -/
def stageChecks (k : BitVec 8) (r : StageRegs) : List ((BitVec 8 × BitVec 8) × Prop) :=
  [((1, k), r.fs = 0),
    ((6, k), r.ntaps = 0 ∨ r.ntaps.toNat % 2 = 0 ∨ Config.maxTaps < r.ntaps.toNat),
    ((7, k), r.decim = 0),
    ((5, k), r.transEn = true ∧ r.fs.toNat < 2 * r.ftrans.toInt.natAbs),
    ((4, k), r.transEn = true ∧
      ∀ n, 1 ≤ n → n ≤ Config.maxOsc → (n * r.ftrans.toInt.natAbs) % r.fs.toNat ≠ 0)]

/-- The checks of the receiver in R347's order, with the vendor number as the index of a plan's. -/
def receiverChecks (c : RxConfig) : List ((BitVec 8 × BitVec 8) × Prop) :=
  [((8, 0), c.syncWidth.toNat < 4 ∨ 32 < c.syncWidth.toNat),
    ((9, 0), c.estNum = 0 ∨ c.estDen = 0),
    ((10, 0), c.chMax.toNat < c.chMin.toNat),
    ((11, 0), ¬ PlanLegal (c.vendor 0)),
    ((11, 1), ¬ PlanLegal (c.vendor 1)),
    ((11, 2), ¬ PlanLegal (c.vendor 2)),
    ((11, 3), ¬ PlanLegal (c.vendor 3))]

/-- The first check of a list that fails is the one of code and index `e`. -/
def FirstFailing (checks : List ((BitVec 8 × BitVec 8) × Prop)) (e : BitVec 8 × BitVec 8) : Prop :=
  ∃ before p after, checks = before ++ (e, p) :: after ∧ p ∧ ∀ q ∈ before, ¬ q.2

/-- A stage set to pass-through (40_filter.md R180), its decimation counter at 0 as CONFIGURE leaves it. -/
def PassThrough (r : StageRegs) : Prop := r.ntaps = 1 ∧ r.decim = 1 ∧ r.dcnt = 0 ∧ r.transEn = false

/-- A sample leaves a pass-through stage as it came, but that a NaN may change its sign and payload. -/
def PassesUnchanged (x y : F32) : Prop := (isNaN x = false → y = x) ∧ (isNaN x = true → isNaN y = true)

/-- The lanes of the oscillator entry that stage `sid` reads next are written, each by itself (log entry 5). -/
def OscWritten (s : State) (sid : StageId) : Prop :=
  ∀ l, l = .first ∨ sid = .s0 → (s.mem.readWord (oscAddr sid (s.stage sid).oscIdx.toNat l)).isSome

/-- The next OscNext of stage `sid` reads an unwritten lane first of all: the first lane, or in stage 0 the
second after a written first (40_filter.md R172, 10_state.md R44). The mark by the lane and the order of the
two lanes are the model's choice (log entry 5). -/
def OscUnwritten (s : State) (sid : StageId) (l : Lane) : Prop :=
  s.mem.readWord (oscAddr sid (s.stage sid).oscIdx.toNat l) = none ∧
    (l = .second → sid = .s0 ∧
      (s.mem.readWord (oscAddr sid (s.stage sid).oscIdx.toNat .first)).isSome)

/-- The first unwritten word that the next FilterCompute of stage `sid` reads: a lane of the oscillator entry
with TRANS_EN, or, on an output call, a coefficient below NTAPS (40_filter.md R181, R184). That the fault names
the first in the order of the pseudocode is the model's choice (log entry 5). -/
def FirstUnwritten (s : State) (sid : StageId) (f : Fault) : Prop :=
  (∃ l, f = .unwrittenOsc sid (s.stage sid).oscIdx.toNat l ∧ (s.stage sid).transEn = true ∧
      OscUnwritten s sid l) ∨
    ∃ t, f = .unwrittenCoef sid t ∧ ((s.stage sid).transEn = true → OscWritten s sid) ∧
      (s.stage sid).dcnt + 1 = (s.stage sid).decim ∧ t < (s.stage sid).ntaps.toNat ∧
      s.mem.readWord (coefAddr sid t) = none ∧ ∀ u, u < t → (s.mem.readWord (coefAddr sid u)).isSome

/-- What a word of SHIFT reads where its value is fixed: an entry that takes part in the datapath and is
written, and +0.0 for the second lane of stages 1 and 2 (10_state.md R45). That this lane reads +0.0 in every
state, so right after reset and at and beyond NTAPS too, is the model's choice (log entry 7). -/
def shiftValue (s : State) (sid : StageId) (t : Nat) : Lane → Option Nat
  | .first =>
    if t < specifiedTaps (s.stage sid) then
      match sid with
      | .s0 => s.shift0[t]?.map fun x => x.re.toNat
      | .s1 => s.shift1[t]?.map fun x => x.toNat
      | .s2 => s.shift2[t]?.map fun x => x.toNat
    else none
  | .second =>
    match sid with
    | .s0 => if t < specifiedTaps s.stage0 then s.shift0[t]?.map fun x => x.im.toNat else none
    | .s1 => some 0
    | .s2 => some 0

/-- The number that each mapped word reads, by the layouts of 10_state.md R31 to R59 and 30_encoding.md R145;
`none` where the value is left open. For SHIFT see `shiftValue` (log entries 6 and 7). -/
def registerValue (s : State) : Reg → Option Nat
  | .ro .id => some 0x53450001
  | .rw .ctrl => some s.ctrl.run.toNat
  | .ro .status =>
    some (s.ctrl.configured.toNat + 2 * s.ctrl.run.toNat + 4 * s.ctrl.fatal.toNat + 8 * s.irq.toNat)
  | .ro .err => some (s.ctrl.errCode.toNat + 2 ^ 8 * s.ctrl.errIndex.toNat)
  | .rw .evtStatus => some s.evt.status.toNat
  | .rw .evtEnable => some s.evt.enable.toNat
  | .rw .cmd => some s.cmd.cmd.toNat
  | .rw .arg0 => some s.cmd.arg0.toNat
  | .rw .arg1 => some s.cmd.arg1.toNat
  | .ro .res0 => some s.cmd.res0.toNat
  | .ro .res1 => some s.cmd.res1.toNat
  | .ro .cmdStatus => some (s.cmd.code.toNat + 2 ^ 8 * s.cmd.valid.toNat + 2 ^ 24 * s.cmd.opcode.toNat)
  | .cfg (.ntaps sid) => some (s.stage sid).ntaps.toNat
  | .cfg (.decim sid) => some (s.stage sid).decim.toNat
  | .cfg (.fs sid) => some (s.stage sid).fs.toNat
  | .cfg (.ftrans sid) => some (s.stage sid).ftrans.toNat
  | .cfg (.transEn sid) => some (s.stage sid).transEn.toNat
  | .ro (.oscN sid) => some (s.stage sid).oscN.toNat
  | .ro (.oscIdx sid) => some (s.stage sid).oscIdx.toNat
  | .ro (.dcnt sid) => some (s.stage sid).dcnt.toNat
  | .cfg .syncPattern => some s.cfg.syncPattern.toNat
  | .cfg .syncWidth => some s.cfg.syncWidth.toNat
  | .cfg .estNum => some s.cfg.estNum.toNat
  | .cfg .estDen => some s.cfg.estDen.toNat
  | .cfg .chRange => some (s.cfg.chMin.toNat + 2 ^ 8 * s.cfg.chMax.toNat)
  | .cfg .chanVendor => some s.cfg.chanVendor.toNat
  | .cfg (.poly v) => some (s.cfg.vendor v).poly.toNat
  | .cfg (.finalXor v) => some (s.cfg.vendor v).finalXor.toNat
  | .cfg (.planLen v) => some (s.cfg.vendor v).planLen.toNat
  | .cfg (.plan v e) =>
    let k := (s.cfg.vendor v).plan.getD e.toNat PlanEntry.reset
    some (k.kind.toNat + 2 ^ 4 * k.zchk.toNat + 2 ^ 8 * k.width.toNat)
  | .ro .rxState =>
    some (s.rx.state.toNat + 2 ^ 8 * s.rx.planIdx.toNat + 2 ^ 16 * s.rx.prevLevel.toNat +
      2 ^ 24 * s.rx.msgActive.toNat)
  | .ro .syncShift => some s.rx.syncShift.toNat
  | .ro .trkCur => some s.trk.cur.toNat
  | .ro .avgNum => some s.trk.avgNum.toNat
  | .ro .avgDen => some s.trk.avgDen.toNat
  | .ro (.trkSlot i) => some (if i.toNat < s.trk.width then (s.trk.slot i.toNat).toNat else 0)
  | .ro .manStatus => some (s.man.pendLevel.toNat + 2 * s.man.pendValid.toNat + 2 ^ 8 * s.man.cnt.toNat)
  | .ro .manAcc => some s.man.acc.toNat
  | .ro .crcReg => some s.crc.reg.toNat
  | .ro .crcPoly => some s.crc.poly.toNat
  | .ro .crcFxor => some s.crc.fxor.toNat
  | .ro .crcAccLo => some (s.crc.acc.toNat % 2 ^ 32)
  | .ro .crcAccHi => some (s.crc.acc.toNat / 2 ^ 32)
  | .ro .curInfo =>
    some (s.cur.vendor.toNat + 2 ^ 8 * s.cur.channel.toNat + 2 ^ 16 * s.cur.hdrPresent.toNat)
  | .ro .curHeader => some s.cur.header.toNat
  | .ro .curTxid => some s.cur.txid.toNat
  | .ro .curState => some s.cur.state.toNat
  | .ro .msgInfo =>
    some (s.msg.vendor.toNat + 2 ^ 8 * s.msg.channel.toNat + 2 ^ 16 * s.msg.hdrPresent.toNat +
      2 ^ 17 * s.msg.devidPresent.toNat + 2 ^ 24 * s.msg.valid.toNat)
  | .ro .msgHeader => some s.msg.header.toNat
  | .ro .msgTxid => some s.msg.txid.toNat
  | .ro .msgState => some s.msg.state.toNat
  | .ro .msgDevid => some s.msg.devid.toNat
  | .ro (.counter .sample) => some s.counters.sample.toNat
  | .ro (.counter .level) => some s.counters.level.toNat
  | .ro (.counter .sync) => some s.counters.sync.toNat
  | .ro (.counter .msg) => some s.counters.msg.toNat
  | .ro (.counter .crcErr) => some s.counters.crcErr.toNat
  | .ro (.counter .chanErr) => some s.counters.chanErr.toNat
  | .ro (.counter .zeroTxid) => some s.counters.zeroTxid.toNat
  | .ro (.counter .manErr) => some s.counters.manErr.toNat
  | .ro (.shift sid t l) => shiftValue s sid t l
  | .cfg (.coef sid t) => (s.mem.readWord (coefAddr sid t)).map fun w => w.toNat
  | .cfg (.oscTab sid k l) => (s.mem.readWord (oscAddr sid k l)).map fun w => w.toNat

/-- The CFG registers and RAM words of two states agree. -/
def SameConfiguration (s t : State) : Prop :=
  t.cfg = s.cfg ∧ t.mem = s.mem ∧
    ∀ sid, (t.stage sid).ntaps = (s.stage sid).ntaps ∧ (t.stage sid).decim = (s.stage sid).decim ∧
      (t.stage sid).fs = (s.stage sid).fs ∧ (t.stage sid).ftrans = (s.stage sid).ftrans ∧
      (t.stage sid).transEn = (s.stage sid).transEn

/-- The state a step takes a turn in: the turn is used up and the output strobes have fallen. -/
def atTurn (s : State) (ts : List Turn) : State := { s with turns := ts, busOut := none, msgOut := none }

end Sys2Proof.Claims

open Sys2Proof.Claims

/-! ### Encoding -/

/-- Decode and encode agree on every well-formed command (30_encoding.md R130, R132, R134). -/
def Obligations.DecodeOfEncodeIsTheCommand : Prop :=
  ∀ i : Instr, i.WellFormed = true → decode (encode i) = .ok i

/-- A word the decoder accepts is the encoding of a well-formed command, so it ignores no bit of a command
word (30_encoding.md R134, R135). -/
def Obligations.EncodeOfDecodeIsTheWord : Prop :=
  ∀ (w : Word) (i : Instr), decode w = .ok i → encode i = w ∧ i.WellFormed = true

/-- 30_encoding.md R135 cases 1 to 3: BAD_OPCODE exactly for an unlisted opcode; a listed opcode with a
reserved bit set or an operand out of range, so that no well-formed command has that word, is
BAD_OPERAND. -/
def Obligations.RejectionIsNamedByOpcodeFirst : Prop :=
  ∀ w : Word,
    (decode w = .error .badOpcode ↔ (w.extractLsb' 24 8).toNat ∉ opcodes) ∧
      ((w.extractLsb' 24 8).toNat ∈ opcodes →
        (∀ i : Instr, i.WellFormed = true → encode i ≠ w) → decode w = .error .badOperand)

/-- Sanity: command words written out from the patterns of 30_encoding.md R134, one per family, decode to
the commands they stand for. -/
def Obligations.WrittenOutWordsDecode : Prop :=
  decode 0x01000000 = .ok .configure ∧ decode 0x03000001 = .ok (.rxPushLevel true) ∧
    decode 0x11020000 = .ok (.filtCompute 2) ∧ decode 0x22000000 = .ok .trkCount ∧
    decode 0x30000000 = .ok (.manAdd false) ∧ decode 0x40000120 = .ok (.crcPush 32 true) ∧
    decode 0x43030000 = .ok (.crcSelect 3)

/-! ### Issue of a command -/

/-- A step whose next bus access is a full-width write of `w` to CMD runs the command `w` decodes to, with
CMD and CMD_STATUS.OPCODE holding the word, an OKAY response on the bus and the access used up
(45_control.md R340, 30_encoding.md R141). -/
def Obligations.StepRunsTheDecodedCommand : Prop :=
  ∀ (s : State) (w : Word) (i : Instr) (ts : List Turn) (ops : List BusOp),
    s.turns = .host :: ts → s.bus = .write 0x020 w 0xF :: ops → decode w = .ok i →
      step s =
        exec i { s with
          turns := ts, bus := ops, busOut := some (.write .okay), msgOut := none
          cmd := { s.cmd with cmd := w, opcode := w.extractLsb' 24 8 } }

/-- A word the decoder rejects ends with BAD_OPCODE or BAD_OPERAND: besides CMD and CMD_STATUS only the
CMD_ERR event changes (30_encoding.md R135, 45_control.md R341). -/
def Obligations.RejectedWordLeavesOnlyItsRecord : Prop :=
  ∀ (s : State) (w : Word) (e : DecodeError) (ts : List Turn) (ops : List BusOp),
    s.turns = .host :: ts → s.bus = .write 0x020 w 0xF :: ops → decode w = .error e →
      step s =
        .next { s with
          turns := ts, bus := ops, busOut := some (.write .okay), msgOut := none
          cmd := { s.cmd with
            cmd := w, opcode := w.extractLsb' 24 8, valid := false
            code := match e with
              | .badOpcode => 1
              | .badOperand => 2 }
          evt := { s.evt with status := s.evt.status ||| 0x80 } }

/-- The mode checks of 45_control.md R342, in its column order: every component command is BUSY while
RUN = 1 and NOT_CONFIGURED while CONFIGURED = 0, CONFIGURE is BUSY while RUN = 1, PIPE_PUSH is NOT_RUNNING
while RUN = 0. Before them an operand out of range is BAD_OPERAND (30_encoding.md R135 case 3), after them
OSC_NEXT on a stage without translation is (40_filter.md R194). Each is turned away with `CmdError` and no
other effect. -/
def Obligations.ChecksTurnCommandsAwayInOrder : Prop :=
  (∀ (i : Instr) (s : State), i.WellFormed = false → exec i s = .next (turnedAway s 2)) ∧
    (∀ (i : Instr) (s : State), NeedsPause i → i.WellFormed = true →
      (s.ctrl.run = true → exec i s = .next (turnedAway s 3)) ∧
        (s.ctrl.run = false → s.ctrl.configured = false → exec i s = .next (turnedAway s 4))) ∧
    (∀ s : State, s.ctrl.run = true → exec .configure s = .next (turnedAway s 3)) ∧
    (∀ s : State, s.ctrl.run = false → exec .pipePush s = .next (turnedAway s 5)) ∧
    ∀ (s : State) (sel : BitVec 2) (sid : StageId), s.Paused → sel.toNat = sid.num →
      (s.stage sid).transEn = false → exec (.oscNext sel) s = .next (turnedAway s 2)

/-! ### Control commands -/

/-- NOP ends OK in every mode and changes nothing else (45_control.md R352). -/
def Obligations.NopEndsOkInEveryMode : Prop := ∀ s : State, exec .nop s = .next { s with cmd := done s }

/-- With RUN = 0 a CONFIGURE whose checks pass completes: OSC_N is recomputed, the run-time state takes its
initial values, ERR and FATAL are cleared, CONFIGURED is set, and all other state of the block stays. One that
finds a check failing ends with CONFIG_FAILED, ERR holds the check and its index, and nothing else changes
(45_control.md R345, R346, R348, R341). The MODEL's choices in it: the counter `configCount`, the stamps and
the bound of the specified SHIFT entries are the model's own fields (log entries 6 and 13), and a failure
leaves CONFIGURED as it was, which R345 gives as 0 (log entry 18). -/
def Obligations.ConfigureInitialisesOrReportsTheFailure : Prop :=
  ∀ s : State, s.ctrl.run = false →
    (checkConfig Config.maxTaps Config.maxOsc s = none →
      let init := fun r : StageRegs =>
        { r with
          oscN := if r.transEn then
              BitVec.ofNat 32 (r.fs.toNat / Nat.gcd r.fs.toNat r.ftrans.toInt.natAbs) else 0
          oscIdx := 0, dcnt := 0, shiftLive := r.ntaps.toNat
          shiftStamps := List.replicate r.ntaps.toNat (s.configCount + 1) ++ r.shiftStamps.drop r.ntaps.toNat }
      exec .configure s =
        .next { s with
          cmd := done s
          ctrl := { s.ctrl with configured := true, fatal := false, errCode := 0, errIndex := 0 }
          stage0 := init s.stage0, stage1 := init s.stage1, stage2 := init s.stage2
          shift0 := List.replicate s.stage0.ntaps.toNat { re := 0, im := 0 } ++
            s.shift0.drop s.stage0.ntaps.toNat
          shift1 := List.replicate s.stage1.ntaps.toNat 0 ++ s.shift1.drop s.stage1.ntaps.toNat
          shift2 := List.replicate s.stage2.ntaps.toNat 0 ++ s.shift2.drop s.stage2.ntaps.toNat
          rx := { state := 0, planIdx := 0, prevLevel := false, msgActive := false, syncShift := 0 }
          trk := { cur := 0, slots := Vector.replicate 31 0, avgNum := s.cfg.estNum, avgDen := s.cfg.estDen
                   window := (s.cfg.syncWidth - 1).setWidth 5 }
          man := { pendLevel := false, pendValid := false, cnt := 0, acc := 0 }
          crc := { reg := 0, poly := 0, fxor := 0, acc := 0 }
          cur := CurMsg.reset, msg := OutMsg.reset, counters := Counters.reset
          configCount := s.configCount + 1 }) ∧
      ∀ code index : BitVec 8, checkConfig Config.maxTaps Config.maxOsc s = some (code, index) →
        exec .configure s =
          .next (turnedAway { s with ctrl := { s.ctrl with errCode := code, errIndex := index } } 6)

/-- CONFIGURE's checks pass exactly on the legal configurations of 45_control.md R346 and R347, and otherwise
name the first failing check in the order of those rules, by its code of 60_exceptions.md R370 with the stage
or vendor number as the index. -/
def Obligations.ConfigureAcceptsLegalAndNamesTheFirstFailure : Prop :=
  ∀ s : State,
    (checkConfig Config.maxTaps Config.maxOsc s = none ↔
      (∀ sid, StageLegal (s.stage sid)) ∧ 4 ≤ s.cfg.syncWidth.toNat ∧ s.cfg.syncWidth.toNat ≤ 32 ∧
        s.cfg.estNum ≠ 0 ∧ s.cfg.estDen ≠ 0 ∧ s.cfg.chMin.toNat ≤ s.cfg.chMax.toNat ∧
        ∀ v, PlanLegal (s.cfg.vendor v)) ∧
      ∀ e, checkConfig Config.maxTaps Config.maxOsc s = some e ↔
        FirstFailing
          (stageChecks 0 s.stage0 ++ stageChecks 1 s.stage1 ++ stageChecks 2 s.stage2 ++
            receiverChecks s.cfg) e

/-- The oscillator period is "the smallest sample count N such that N·|frequency| mod sample_rate == 0"
(40_filter.md R170). -/
def Obligations.OscillatorPeriodIsTheSmallest : Prop :=
  ∀ r : StageRegs, r.fs ≠ 0 →
    IsLeast { n : Nat | 1 ≤ n ∧ (n * r.ftrans.toInt.natAbs) % r.fs.toNat = 0 } (oscPeriod r)

/-- RX_ABORT completes: the receiver returns to SYNC with the estimate as average, the in-progress message
and the Manchester decoder are cleared; PREV_LEVEL, the tracker slots and the CRC engine stay
(45_control.md R351, 44_receiver.md R311). -/
def Obligations.RxAbortReturnsToSync : Prop :=
  ∀ s : State, s.Paused →
    exec .rxAbort s =
      .next { s with
        cmd := done s
        rx := { s.rx with state := 0, planIdx := 0, syncShift := 0, msgActive := false }
        trk := { s.trk with avgNum := s.cfg.estNum, avgDen := s.cfg.estDen }
        cur := { vendor := 0, channel := 0, hdrPresent := false, header := 0, txid := 0, state := 0 }
        man := { pendLevel := false, pendValid := false, cnt := 0, acc := 0 } }

/-! ### Pipeline and filters -/

/-- With RUN = 1 and the tables written, PIPE_PUSH completes: it counts one sample, ends OK, and changes
no configuration, no table, no result register and nothing of the agents. The sample goes through stage 0, the
magnitude of its output through stage 1, that output through stage 2, and the level of that output into the
receiver; a stage with no output ends the step there (40_filter.md R190, R192). -/
def Obligations.PipePushCompletesAndRunsTheStagesInOrder : Prop :=
  ∀ s : State, s.ctrl.run = true →
    (s.TablesWritten →
      (∀ sid, (s.stage sid).transEn = true → (s.stage sid).oscIdx.toNat < (s.stage sid).oscN.toNat) →
        ∃ t, exec .pipePush s = .next t ∧ t.counters.sample = s.counters.sample + 1 ∧
          t.ctrl.configured = s.ctrl.configured ∧ t.evt.enable = s.evt.enable ∧ SameConfiguration s t ∧
          t = { s with
            ctrl := t.ctrl, evt := t.evt, cmd := done s, stage0 := t.stage0, stage1 := t.stage1
            stage2 := t.stage2, shift0 := t.shift0, shift1 := t.shift1, shift2 := t.shift2, rx := t.rx
            trk := t.trk, man := t.man, crc := t.crc, cur := t.cur, msg := t.msg, counters := t.counters
            msgOut := t.msgOut }) ∧
      let counted := { s with counters := { s.counters with sample := s.counters.sample + 1 } }
      let first := filterStage0 { re := s.cmd.arg0, im := s.cmd.arg1 } counted
      (∀ a, first = .ok (a, none) → exec .pipePush s = .next { a with cmd := done s }) ∧
        ∀ a y, first = .ok (a, some y) →
          (∀ b, filterStage1 (cmag y) a = .ok (b, none) → exec .pipePush s = .next { b with cmd := done s }) ∧
            ∀ b z, filterStage1 (cmag y) a = .ok (b, some z) →
              (∀ c, filterStage2 z b = .ok (c, none) → exec .pipePush s = .next { c with cmd := done s }) ∧
                ∀ c v, filterStage2 z b = .ok (c, some v) →
                  exec .pipePush s = .next { rxPush (slice v) c with cmd := done s }

/-- A sample accepted on the port does what PIPE_PUSH does with the same pair, less the command's own
record, and stops where it stops; while RUN = 0 the producer holds its sample and nothing else happens
(40_filter.md R191, R192). -/
def Obligations.PortSampleEqualsPipePush : Prop :=
  ∀ (s : State) (x : C32) (xs : List C32) (ts : List Turn), s.turns = .producer :: ts → s.samples = x :: xs →
    (s.ctrl.run = false → step s = .next (atTurn s ts)) ∧
      (s.ctrl.run = true →
        let pushed := exec .pipePush
          { atTurn s ts with samples := xs, cmd := { s.cmd with arg0 := x.re, arg1 := x.im } }
        (∀ t, step s = .next t ↔ ∃ u, pushed = .next u ∧ t = { u with cmd := s.cmd }) ∧
          ∀ f, step s = .fault f ↔ pushed = .fault f)

/-- OSC_NEXT on a stage with translation completes: it returns the entry at the phase index, both lanes in
stage 0 and `.c` alone in stages 1 and 2, and moves only the phase index (40_filter.md R172, R194). -/
def Obligations.OscNextReturnsTheEntryAndAdvances : Prop :=
  ∀ (s : State) (sel : BitVec 2) (sid : StageId) (c im : F32), s.Paused → sel.toNat = sid.num →
    (s.stage sid).transEn = true →
    s.mem.readWord (oscAddr sid (s.stage sid).oscIdx.toNat .first) = some c →
    (sid = .s0 → s.mem.readWord (oscAddr sid (s.stage sid).oscIdx.toNat .second) = some im) →
      exec (.oscNext sel) s =
        .next { s.setStage sid { s.stage sid with oscIdx := nextPhase (s.stage sid) } with
          cmd := results s c (if sid = .s0 then im else 0) true }

/-- The j-th call of OscNext after a CONFIGURE (phase index 0) returns entry `j mod OSC_N`, for any table
contents (40_filter.md R173). -/
def Obligations.OscNextSequenceIsPeriodic : Prop :=
  ∀ (s : State) (sel : BitVec 2) (sid : StageId), s.Paused → sel.toNat = sid.num →
    (s.stage sid).transEn = true → (s.stage sid).oscIdx = 0 → (s.stage sid).oscN ≠ 0 →
    s.StageTablesWritten sid →
      ∀ j : Nat, ∃ t, repeatExec (.oscNext sel) (j + 1) s = some t ∧ t.cmd.valid = true ∧ t.cmd.code = 0 ∧
        t.cmd.res0 = osc s sid (j % (s.stage sid).oscN.toNat) .first ∧
        (sid = .s0 → t.cmd.res1 = osc s sid (j % (s.stage sid).oscN.toNat) .second)

/-- FILT_COMPUTE on stage 0 completes with the shift, the translation, the decimation counter and, on an
output call, the inner product of 40_filter.md R181 and R184; the output goes to the result registers
alone (R195). -/
def Obligations.FiltComputeOnTheComplexStage : Prop :=
  ∀ s : State, s.Paused → s.StageTablesWritten .s0 → 1 ≤ s.stage0.ntaps.toNat →
    s.stage0.ntaps.toNat ≤ s.shift0.length →
    (s.stage0.transEn = true → s.stage0.oscIdx.toNat < s.stage0.oscN.toNat) →
      let n := s.stage0.ntaps.toNat
      let sample : C32 := { re := s.cmd.arg0, im := s.cmd.arg1 }
      let k := s.stage0.oscIdx.toNat
      let x := if s.stage0.transEn then
          cmul sample { re := osc s .s0 k .first, im := osc s .s0 k .second } else sample
      let sh := shifted n s.shift0 x
      let y := complexProduct (coef s .s0) (fun t => sh.getD t { re := 0, im := 0 }) n
      exec (.filtCompute 0) s =
        .next { s with
          stage0 := computedStage s.stage0
          shift0 := sh
          cmd := if s.stage0.dcnt + 1 = s.stage0.decim then results s y.re y.im true
            else results s 0 0 false }

/-- FILT_COMPUTE on stages 1 and 2 completes likewise on the real sample in ARG0 (40_filter.md R181, R184,
R195). -/
def Obligations.FiltComputeOnTheRealStages : Prop :=
  RealStageComputes 1 .s1 State.stage1 State.shift1
      (fun s r sh c => { s with stage1 := r, shift1 := sh, cmd := c }) ∧
    RealStageComputes 2 .s2 State.stage2 State.shift2
      (fun s r sh c => { s with stage2 := r, shift2 := sh, cmd := c })

/-- From DCNT = 0 every DECIM-th call of FILT_COMPUTE on a stage gives an output and no other call does; the
counter stays below DECIM (40_filter.md R183, R181). -/
def Obligations.DecimationOutputsOnEveryNthCall : Prop :=
  ∀ (s : State) (sel : BitVec 2) (sid : StageId), s.Paused → sel.toNat = sid.num →
    s.StageTablesWritten sid → (s.stage sid).dcnt = 0 → (s.stage sid).decim ≠ 0 →
    ((s.stage sid).transEn = true → (s.stage sid).oscIdx.toNat < (s.stage sid).oscN.toNat) →
      ∀ j : Nat, ∃ t, repeatExec (.filtCompute sel) (j + 1) s = some t ∧ t.cmd.code = 0 ∧
        (t.cmd.valid = true ↔ (j + 1) % (s.stage sid).decim.toNat = 0) ∧
        (t.stage sid).dcnt.toNat = (j + 1) % (s.stage sid).decim.toNat

/-- A stage set to pass-through outputs its input bit for bit, in stage 0 in each lane, but that a NaN may
come out with another sign and payload; FILT_COMPUTE on it stores the sample and changes nothing else but its
own record (40_filter.md R180, R184). -/
def Obligations.PassThroughStageIsTheIdentity : Prop :=
  ∀ s : State, s.Paused →
    (PassThrough s.stage0 → s.mem.readWord (coefAddr .s0 0) = some 0x3F800000 →
      ∃ re im, PassesUnchanged s.cmd.arg0 re ∧ PassesUnchanged s.cmd.arg1 im ∧
        exec (.filtCompute 0) s =
          .next { s with
            shift0 := { re := s.cmd.arg0, im := s.cmd.arg1 } :: s.shift0.drop 1
            cmd := results s re im true }) ∧
      (PassThrough s.stage1 → s.mem.readWord (coefAddr .s1 0) = some 0x3F800000 →
        ∃ y, PassesUnchanged s.cmd.arg0 y ∧
          exec (.filtCompute 1) s =
            .next { s with shift1 := s.cmd.arg0 :: s.shift1.drop 1, cmd := results s y 0 true }) ∧
      (PassThrough s.stage2 → s.mem.readWord (coefAddr .s2 0) = some 0x3F800000 →
        ∃ y, PassesUnchanged s.cmd.arg0 y ∧
          exec (.filtCompute 2) s =
            .next { s with shift2 := s.cmd.arg0 :: s.shift2.drop 1, cmd := results s y 0 true })

/-- A NaN operand makes every sum, difference, product and root a NaN whatever its free sign and payload
are, and every NaN slices to level 0 (00_scope.md R16, 40_filter.md R185; the arithmetic is that of IEEE
754-2019, which R16 names, as log entry 20 says). -/
def Obligations.NaNPropagatesAndSlicesLow : Prop :=
  (∀ a b : F32, isNaN a = true ∨ isNaN b = true →
    isNaN (fadd a b) = true ∧ isNaN (fsub a b) = true ∧ isNaN (fmul a b) = true) ∧
    (∀ a : F32, isNaN a = true → isNaN (fsqrt a) = true) ∧ ∀ a : F32, isNaN a = true → slice a = false

/-- The magnitude of a sample is never negative: it is a NaN or its sign bit is clear (40_filter.md
R186; 95_test_vectors.md V-F10; the arithmetic is that of IEEE 754-2019, which 00_scope.md R16 names, as log
entry 20 says). -/
def Obligations.MagnitudeIsNeverNegative : Prop :=
  ∀ x : C32, isNaN (cmag x) = true ∨ signBit (cmag x) = false

/-- The datapath read of a coefficient or an oscillator entry that has not been written since reset is the
model fault of 10_state.md R60 and 70_reset_and_hazards.md R412: on OSC_NEXT and FILT_COMPUTE of every stage, and
on PIPE_PUSH in whichever stage the sample reaches. A bus read of such a word is no fault
(93_implementation_defined.md I1, I2). The MODEL's choices in it (log entry 5, DEDUCED): the written mark is kept
by the word, while R412 speaks of an entry's mark, so that stage 0 faults on an unwritten second lane after a
written first (R414 speaks of "the lanes the stage reads"); and the fault names the first unwritten word in the
order of the pseudocode of 40_filter.md R172, R181 and R184. -/
def Obligations.UnwrittenTableWordFaultsTheDatapathOnly : Prop :=
  (∀ (s : State) (sel : BitVec 2) (sid : StageId), s.Paused → sel.toNat = sid.num →
    (∀ l, (s.stage sid).transEn = true → OscUnwritten s sid l →
      exec (.oscNext sel) s = .fault (.unwrittenOsc sid (s.stage sid).oscIdx.toNat l)) ∧
      ∀ f, FirstUnwritten s sid f → exec (.filtCompute sel) s = .fault f) ∧
    (∀ s : State, s.ctrl.run = true →
      let counted := { s with counters := { s.counters with sample := s.counters.sample + 1 } }
      let first := filterStage0 { re := s.cmd.arg0, im := s.cmd.arg1 } counted
      (∀ f, FirstUnwritten s .s0 f → exec .pipePush s = .fault f) ∧
        ∀ a y, first = .ok (a, some y) →
          (∀ f, FirstUnwritten a .s1 f → exec .pipePush s = .fault f) ∧
            ∀ b z, filterStage1 (cmag y) a = .ok (b, some z) →
              ∀ f, FirstUnwritten b .s2 f → exec .pipePush s = .fault f) ∧
    ∀ (s : State) (a : Addr) (ts : List Turn) (ops : List BusOp), s.turns = .host :: ts →
      s.bus = .read a :: ops → Completes (step s)

/-! ### Tracker -/

/-- TRK_EXTEND completes: the in-progress slot goes one up and stays at 65535, nothing else of the tracker
moves (41_tracker.md R225). -/
def Obligations.TrkExtendCountsTheInProgressSlot : Prop :=
  ∀ s : State, s.Paused → s.trk.cur.toNat < 31 →
    ∃ slots : Vector (BitVec 16) 31,
      exec .trkExtend s = .next { s with cmd := done s, trk := { s.trk with slots := slots } } ∧
        (slots.getD s.trk.cur.toNat 0).toNat = min ((s.trk.slot s.trk.cur.toNat).toNat + 1) 65535 ∧
        ∀ i, i ≠ s.trk.cur.toNat → slots.getD i 0 = s.trk.slot i

/-- TRK_START_SYMBOL completes: the index moves to `(TRK_CUR + 1) mod W`, whose slot takes 1
(41_tracker.md R226). -/
def Obligations.TrkStartSymbolOpensTheNextSlot : Prop :=
  ∀ s : State, s.Paused → 1 ≤ s.trk.width →
    ∃ slots : Vector (BitVec 16) 31,
      exec .trkStartSymbol s =
          .next { s with
            cmd := done s
            trk := { s.trk with cur := BitVec.ofNat 5 ((s.trk.cur.toNat + 1) % s.trk.width), slots := slots } } ∧
        slots.getD ((s.trk.cur.toNat + 1) % s.trk.width) 0 = 1 ∧
        ∀ i, i ≠ (s.trk.cur.toNat + 1) % s.trk.width → slots.getD i 0 = s.trk.slot i

/-- TRK_COUNT completes with "the in-progress slot's sample count by the current average symbol length,
rounding to nearest (ties round up), then clamps to a maximum of 2", and changes only the results
(41_tracker.md R222, R227). -/
def Obligations.TrkCountRoundsTiesUpAndClamps : Prop :=
  ∀ s : State, s.Paused →
    let c := (s.trk.slot s.trk.cur.toNat).toNat
    ∃ n : Nat, exec .trkCount s = .next { s with cmd := results s (BitVec.ofNat 32 n) 0 true } ∧ n ≤ 2 ∧
      (s.trk.avgNum ≠ 0 →
        n = min ⌊(c : ℚ) * (s.trk.avgDen.toNat : ℚ) / (s.trk.avgNum.toNat : ℚ) + 1 / 2⌋₊ 2) ∧
      (s.trk.avgNum = 0 → n = if c = 0 then 0 else 2)

/-- TRK_LOCK_AVG completes: the average becomes the sum of every slot of the window but the in-progress
one and the one before it, over W − 2; the slots and the index stay (41_tracker.md R224, R228). -/
def Obligations.TrkLockAvgAveragesAllButTheTwoMostRecent : Prop :=
  ∀ s : State, s.Paused → 3 ≤ s.trk.width → s.trk.cur.toNat < s.trk.width →
    ∃ num : Word, ∃ den : BitVec 16,
      exec .trkLockAvg s =
          .next { s with cmd := done s, trk := { s.trk with avgNum := num, avgDen := den } } ∧
        den.toNat = s.trk.width - 2 ∧
        num.toNat + (s.trk.slot s.trk.cur.toNat).toNat +
            (s.trk.slot ((s.trk.cur.toNat + s.trk.width - 1) % s.trk.width)).toNat =
          ∑ i ∈ Finset.range s.trk.width, (s.trk.slot i).toNat

/-- TRK_RESET_AVG completes: the average is the configured estimate again (41_tracker.md R229). -/
def Obligations.TrkResetAvgRestoresTheEstimate : Prop :=
  ∀ s : State, s.Paused →
    exec .trkResetAvg s =
      .next { s with
        cmd := done s, trk := { s.trk with avgNum := s.cfg.estNum, avgDen := s.cfg.estDen } }

/-- A run shorter than half the average counts 0, so at a level change it is replayed zero times and the
receiver drops it: only the level count, the tracker's next slot and the level move (41_tracker.md R223). -/
def Obligations.RunUnderHalfASymbolIsDropped : Prop :=
  ∀ (s : State) (l : Level), l ≠ s.rx.prevLevel →
    2 * (s.trk.slot s.trk.cur.toNat).toNat * s.trk.avgDen.toNat < s.trk.avgNum.toNat →
      symCount (s.trk.slot s.trk.cur.toNat).toNat s.trk.avgNum.toNat s.trk.avgDen.toNat = 0 ∧
        rxPush l s =
          { s with
            counters := { s.counters with level := s.counters.level + 1 }
            trk := s.trk.startSymbol
            rx := { s.rx with prevLevel := l } }

/-! ### Manchester decoder -/

/-- MAN_ADD completes with the three outcomes of 42_manchester.md R252 and R255: the level is buffered
when nothing is pending; an opposite pending level makes a bit; an equal one is invalid and changes only
the results. -/
def Obligations.ManAddBuffersDecodesOrRejects : Prop :=
  ∀ (s : State) (l : Level), s.Paused →
    (s.man.pendValid = false →
      exec (.manAdd l) s =
        .next { s with
          cmd := results s 0 0 false, man := { s.man with pendLevel := l, pendValid := true } }) ∧
      (s.man.pendValid = true → s.man.pendLevel ≠ l →
        exec (.manAdd l) s =
          .next { s with
            cmd := results s 1 (if l then 1 else 0) true
            man := { s.man with
              acc := s.man.acc <<< 1 ||| (if l then 1 else 0)
              cnt := BitVec.ofNat 6 (min (s.man.cnt.toNat + 1) 32), pendValid := false } }) ∧
      (s.man.pendValid = true → s.man.pendLevel = l →
        exec (.manAdd l) s = .next { s with cmd := results s 2 0 false })

/-- MAN_POP_ALL completes: it returns the word and the bit count and clears both; a pending half-symbol
survives. MAN_SIZE completes: it returns the bit count and changes only the results. MAN_RESET completes: all
four pieces of the decoder are cleared (42_manchester.md R256, R257, R258). -/
def Obligations.ManPopAllSizeAndResetHaveTheirResults : Prop :=
  ∀ s : State, s.Paused →
    exec .manPopAll s =
        .next { s with
          cmd := results s s.man.acc (s.man.cnt.setWidth 32) true, man := { s.man with acc := 0, cnt := 0 } } ∧
      exec .manSize s = .next { s with cmd := results s (s.man.cnt.setWidth 32) 0 true } ∧
      exec .manReset s =
        .next { s with
          cmd := done s, man := { pendLevel := false, pendValid := false, cnt := 0, acc := 0 } }

/-- For each bit b, ManAdd(1 − b) then ManAdd(b) with nothing pending returns BUFFERED and then DECODED
with bit b (42_manchester.md R259). -/
def Obligations.ManchesterRoundTripReturnsTheBit : Prop :=
  ∀ (m : Manchester) (b : Bool), m.pendValid = false →
    (m.add (!b)).2 = .buffered ∧ ((m.add (!b)).1.add b).2 = .decoded b ∧
      ((m.add (!b)).1.add b).1.pendValid = false

/-- A decoder with nothing pending that is fed data bits as pairs of levels keeps the last 32 of them,
newest in bit 0, and a count that saturates at 32 (42_manchester.md R253). -/
def Obligations.ManchesterKeepsTheLast32Bits : Prop :=
  ∀ (m : Manchester) (bits : List Bool), m.pendValid = false → m.cnt.toNat ≤ 32 →
    let m1 := (levelsOf bits).foldl (fun m l => (m.add l).1) m
    m1.acc.toNat = (m.acc.toNat * 2 ^ bits.length + bitsValue bits) % 2 ^ 32 ∧
      m1.cnt.toNat = min (m.cnt.toNat + bits.length) 32 ∧ m1.pendValid = false

/-! ### CRC engine -/

/-- CRC_PUSH completes: bits N − 1 down to 0 of ARG0 go through the bit step of 43_crc16.md R270 in that
order, the bits above them are ignored, and only the engine changes (R271, R275). -/
def Obligations.CrcPushShiftsTheBitsMsbFirst : Prop :=
  ∀ (s : State) (n : BitVec 6) (acc : Bool), s.Paused → n.toNat ≤ 32 →
    exec (.crcPush n acc) s =
      .next { s with
        cmd := done s
        crc := (msbFirst s.cmd.arg0.toNat n.toNat).foldl (fun c d => crcBit c d acc) s.crc }

/-- CRC_FINALIZE completes: it returns the register after 16 zero bits more, XOR the final XOR, and leaves
CRC_REG and CRC_ACC as they were, so that issuing it again returns the same value (43_crc16.md R272, R273). -/
def Obligations.CrcFinalizeReturnsTheFlushedRegisterIdempotently : Prop :=
  ∀ s : State, s.Paused →
    let flushed := (List.replicate 16 false).foldl (fun c d => crcBit c d false) s.crc
    let t := { s with cmd := results s ((flushed.reg ^^^ s.crc.fxor).setWidth 32) 0 true }
    exec .crcFinalize s = .next t ∧ exec .crcFinalize t = .next t

/-- From a cleared register, pushing a message M and finalizing gives the remainder of M(x)·x^16 modulo
x^16 + P(x), XOR the final XOR (43_crc16.md R274). -/
def Obligations.CrcFinalizeIsThePolynomialRemainder : Prop :=
  ∀ (c : CrcEngine) (bits : List Bool), c.reg = 0 →
    wordPoly ((bits.foldl (fun c d => c.pushBit d true) c).finalize ^^^ c.fxor) =
      (messagePoly bits * Polynomial.X ^ 16) %ₘ (Polynomial.X ^ 16 + wordPoly c.poly)

/-- CRC_RESET completes: register and accumulator are zeroed, polynomial and final XOR stay. CRC_SELECT
completes for every vendor: the engine takes its polynomial and final XOR, register and accumulator stay
(43_crc16.md R277, R278). -/
def Obligations.CrcResetAndSelectChangeTheirHalves : Prop :=
  ∀ s : State, s.Paused →
    exec .crcReset s = .next { s with cmd := done s, crc := { s.crc with reg := 0, acc := 0 } } ∧
      ∀ v : BitVec 2,
        exec (.crcSelect v) s =
          .next { s with
            cmd := done s
            crc := { s.crc with poly := (s.cfg.vendor v).poly, fxor := (s.cfg.vendor v).finalXor } }

/-! ### Receiver -/

/-- RX_PUSH_LEVEL completes on every level: one level is counted, the level is registered, no sample is
counted, and nothing outside the receiver's own state, the events, the counters, ERR and the message
output changes. While the level holds, only the in-progress slot counts; at a change the previous level is
replayed as often as the slot's symbol count, computed before, says, no further once FATAL is set, and then
the next slot opens (44_receiver.md R300, R320). -/
def Obligations.RxPushLevelRegistersTheLevel : Prop :=
  ∀ (s : State) (l : Level), s.Paused →
    (∃ t, exec (.rxPushLevel l) s = .next t ∧ t.rx.prevLevel = l ∧
      t.counters.level = s.counters.level + 1 ∧ t.counters.sample = s.counters.sample ∧
      t.ctrl.configured = true ∧ t.ctrl.run = false ∧ t.evt.enable = s.evt.enable ∧
      t = { s with
        ctrl := t.ctrl, evt := t.evt, cmd := done s, rx := t.rx, trk := t.trk, man := t.man, crc := t.crc
        cur := t.cur, msg := t.msg, counters := t.counters, msgOut := t.msgOut }) ∧
      let counted := { s with counters := { s.counters with level := s.counters.level + 1 } }
      (l = s.rx.prevLevel →
        exec (.rxPushLevel l) s = .next { counted with cmd := done s, trk := s.trk.extend }) ∧
        (l ≠ s.rx.prevLevel →
          let n := symCount (s.trk.slot s.trk.cur.toNat).toNat s.trk.avgNum.toNat s.trk.avgDen.toNat
          let once := smStep s.rx.prevLevel counted
          let t := if n = 0 ∨ s.ctrl.fatal = true then counted
            else if n = 1 ∨ once.ctrl.fatal = true then once else smStep s.rx.prevLevel once
          exec (.rxPushLevel l) s =
            .next { t with
              cmd := done s, trk := t.trk.startSymbol, rx := { t.rx with prevLevel := l } })

/-- The SYNC arm: the level enters SYNC_SHIFT under the mask; on a match with the pattern under the mask
the average is locked, SYNC is counted and raised, and the state is CHANNEL (44_receiver.md R301). -/
def Obligations.SyncMatchLocksTheAverageAndOpensTheFrame : Prop :=
  ∀ (s : State) (b : Level), s.rx.state = 0 → s.cfg.syncWidth.toNat ≤ 32 →
    let shifted := BitVec.ofNat 32 ((2 * s.rx.syncShift.toNat + b.toNat) % 2 ^ s.cfg.syncWidth.toNat)
    (shifted.toNat ≠ s.cfg.syncPattern.toNat % 2 ^ s.cfg.syncWidth.toNat →
      smStep b s = { s with rx := { s.rx with syncShift := shifted } }) ∧
      (shifted.toNat = s.cfg.syncPattern.toNat % 2 ^ s.cfg.syncWidth.toNat →
        smStep b s =
          { s with
            rx := { s.rx with syncShift := shifted, state := 1 }
            trk := s.trk.lockAverage
            counters := { s.counters with sync := s.counters.sync + 1 }
            evt := { s.evt with status := s.evt.status ||| 0x20 } })

/-- In a field state with an empty decoder, the Manchester levels of a value's bits, most significant
first, end in the completion of the field with exactly that value (44_receiver.md R302, R303,
30_encoding.md R147). -/
def Obligations.FieldLevelsCompleteTheFieldWithItsValue : Prop :=
  ∀ (s : State) (v : Nat), 1 ≤ s.rx.state.toNat → s.rx.state.toNat ≤ 5 → s.man.pendValid = false →
    s.man.cnt = 0 → s.man.acc = 0 → 1 ≤ fieldWidth s → fieldWidth s ≤ 32 → v < 2 ^ fieldWidth s →
      (levelsOf (msbFirst v (fieldWidth s))).foldl (fun s b => smStep b s) s =
        completeField (BitVec.ofNat 32 v) (fieldWidth s)
          { s with man := { pendLevel := !v.testBit 0, pendValid := false, cnt := 0, acc := 0 } }

/-- The field arms: a level equal to the pending half-symbol is dropped, MAN_ERR is counted and raised, and the
field goes on; a level with nothing pending is buffered, an opposite one makes a bit; and then the field goes
on while the decoder holds fewer bits than the field is wide and completes with its low bits once it holds as
many, or more after direct MAN_ADDs (44_receiver.md R302, R303, 42_manchester.md R251, R252). -/
def Obligations.FieldArmDropsOrFeedsALevelAndCompletesAtTheWidth : Prop :=
  ∀ (s : State) (b : Level), 1 ≤ s.rx.state.toNat → s.rx.state.toNat ≤ 5 →
    (s.rx.state.toNat ≤ 4 → s.rx.planIdx.toNat < 8) →
      let w := if s.rx.state = 1 then 4 else if s.rx.state = 5 then 16 else
        ((s.cfg.vendor s.cur.vendor).plan.getD s.rx.planIdx.toNat PlanEntry.reset).width.toNat
      let fed := fun m : Manchester =>
        if m.cnt.toNat < w then { s with man := m }
        else completeField (BitVec.ofNat 32 (m.acc.toNat % 2 ^ w)) w
          { s with man := { m with acc := 0, cnt := 0 } }
      (s.man.pendValid = true → s.man.pendLevel = b →
        smStep b s =
          { s with
            counters := { s.counters with manErr := s.counters.manErr + 1 }
            evt := { s.evt with status := s.evt.status ||| 0x10 } }) ∧
        (s.man.pendValid = false →
          smStep b s = fed { s.man with pendLevel := b, pendValid := true }) ∧
        (s.man.pendValid = true → s.man.pendLevel ≠ b →
          smStep b s =
            fed { s.man with
              acc := s.man.acc <<< 1 ||| (if b then 1 else 0)
              cnt := BitVec.ofNat 6 (min (s.man.cnt.toNat + 1) 32), pendValid := false })

/-- The CRC field's completion: a match with the finalized CRC emits the in-progress message, a mismatch
counts and raises CRC_ERR and leaves the MSG registers; either way the frame ends (44_receiver.md R310,
R311, R316, R317). -/
def Obligations.CrcFieldEmitsExactlyOnAMatch : Prop :=
  ∀ (s : State) (v : Word), s.rx.state = 5 →
    (v.setWidth 16 = s.crc.finalize →
      completeField v 16 s =
        frameEnded { s with
          msg := { vendor := s.cur.vendor, channel := s.cur.channel, hdrPresent := s.cur.hdrPresent
                   devidPresent := false, valid := true, header := s.cur.header, txid := s.cur.txid
                   state := s.cur.state, devid := 0 }
          msgOut := some { vendor := s.cur.vendor, channel := s.cur.channel, hdrPresent := s.cur.hdrPresent
                           header := s.cur.header, devidPresent := false, txid := s.cur.txid
                           state := s.cur.state }
          counters := { s.counters with msg := s.counters.msg + 1 }
          evt := { s.evt with status := s.evt.status ||| 0x01 } }) ∧
      (v.setWidth 16 ≠ s.crc.finalize →
        completeField v 16 s =
          frameEnded { s with
            counters := { s.counters with crcErr := s.counters.crcErr + 1 }
            evt := { s.evt with status := s.evt.status ||| 0x02 } })

/-- The completion of CHANNEL: a channel in range opens a fresh message with the vendor its two bits of
CHAN_VENDOR name, restarts the CRC engine with that vendor's polynomial over the channel bits, and goes to
the vendor's first field; a channel out of range ends the frame with its counter and event and leaves the CRC
engine (44_receiver.md R304, R305, R311, R313). -/
def Obligations.ChannelOpensTheMessageOrEndsTheFrame : Prop :=
  ∀ (s : State) (c : Nat), s.rx.state = 1 → c < 16 →
    (s.cfg.chMin.toNat ≤ c → c ≤ s.cfg.chMax.toNat →
      let vd := BitVec.ofNat 2 (s.cfg.chanVendor.toNat / 4 ^ c % 4)
      let v := s.cfg.vendor vd
      completeField (BitVec.ofNat 32 c) 4 s =
        { s with
          cur := { vendor := vd, channel := BitVec.ofNat 4 c, hdrPresent := false, header := 0, txid := 0
                   state := 0 }
          crc := (msbFirst c 4).foldl (fun e d => crcBit e d true)
            { reg := 0, poly := v.poly, fxor := v.finalXor, acc := 0 }
          rx := { s.rx with
            planIdx := 0, msgActive := true
            state := if v.planLen = 0 then 5 else (v.plan.getD 0 PlanEntry.reset).kind } }) ∧
      (c < s.cfg.chMin.toNat ∨ s.cfg.chMax.toNat < c →
        completeField (BitVec.ofNat 32 c) 4 s =
          frameEnded { s with
            counters := { s.counters with chanErr := s.counters.chanErr + 1 }
            evt := { s.evt with status := s.evt.status ||| 0x04 } })

/-- The completion of HEADER, TXID and SENSOR_STATE: the value joins what the message holds of that field,
earlier bits high, its bits go through the CRC engine, and the plan advances to its next entry, or to CRC
after the last; a TXID whose entry asks for it and that is all zero ends the frame instead, with its counter
and event and nothing pushed (44_receiver.md R306 to R309). -/
def Obligations.PlanFieldsAccumulateAndAdvance : Prop :=
  ∀ (s : State) (v : Word) (w : Nat), v.toNat < 2 ^ w → s.rx.planIdx.toNat < 8 →
    (s.cfg.vendor s.cur.vendor).planLen.toNat ≤ 8 →
      let plan := s.cfg.vendor s.cur.vendor
      let next := s.rx.planIdx.toNat + 1
      let advanced := fun cur : CurMsg =>
        { s with
          cur := cur
          crc := (msbFirst v.toNat w).foldl (fun e d => crcBit e d true) s.crc
          rx := { s.rx with
            planIdx := BitVec.ofNat 4 next
            state := if next < plan.planLen.toNat then (plan.plan.getD next PlanEntry.reset).kind else 5 } }
      (s.rx.state = 2 →
        completeField v w s =
          advanced { s.cur with
            header := BitVec.ofNat 32 (s.cur.header.toNat * 2 ^ w + v.toNat), hdrPresent := true }) ∧
        (s.rx.state = 3 →
          let id := BitVec.ofNat 32 (s.cur.txid.toNat * 2 ^ w + v.toNat)
          completeField v w s =
            if (plan.plan.getD s.rx.planIdx.toNat PlanEntry.reset).zchk = true ∧ id = 0 then
              frameEnded { s with
                counters := { s.counters with zeroTxid := s.counters.zeroTxid + 1 }
                evt := { s.evt with status := s.evt.status ||| 0x08 } }
            else advanced { s.cur with txid := id }) ∧
        (s.rx.state = 4 →
          completeField v w s =
            advanced { s.cur with state := BitVec.ofNat 8 (s.cur.state.toNat * 2 ^ w + v.toNat) })

/-- A step emits at most one message: the message stream carries a message exactly in a step that counts one,
MSG_COUNT goes up by one at most, and only a reset, a soft reset or a CONFIGURE that passes its checks clears
it (44_receiver.md R318, R316, 10_state.md R59). -/
def Obligations.AStepEmitsAtMostOneMessage : Prop :=
  ∀ s t : State, step s = .next t →
    (t.msgOut.isSome ∧ t.counters.msg = s.counters.msg + 1) ∨
      (t.msgOut = none ∧
        (t.counters.msg = s.counters.msg ∨
          (t.counters.msg = 0 ∧
            ((∃ ts, s.turns = .reset :: ts) ∨
              ∃ ts ops w, s.turns = .host :: ts ∧
                ((s.bus = .write 0x004 w 0xF :: ops ∧ w.getLsbD 1 = true) ∨
                  (s.bus = .write 0x020 0x01000000 0xF :: ops ∧ s.ctrl.run = false ∧
                    checkConfig Config.maxTaps Config.maxOsc s = none))))))

/-- The fatal action: a receiver step in an unreachable state value sets FATAL, clears RUN, records error
code 12 with index 0, raises FATAL, and changes nothing else (60_exceptions.md R376, 44_receiver.md
R312). -/
def Obligations.UnreachableStateTakesTheFatalAction : Prop :=
  ∀ (s : State) (b : Level), 5 < s.rx.state.toNat →
    smStep b s =
      { s with
        ctrl := { s.ctrl with fatal := true, run := false, errCode := 12, errIndex := 0 }
        evt := { s.evt with status := s.evt.status ||| 0x40 } }

/-! ### Events, bus and reset -/

/-- An event bit is sticky: a step that clears bit i of EVT_STATUS is a reset, a soft reset, or a
full-width write of a 1 to that bit of EVT_STATUS (60_exceptions.md R380). -/
def Obligations.EventBitsAreSticky : Prop :=
  ∀ (s t : State) (i : Nat), step s = .next t → s.evt.status.getLsbD i = true →
    t.evt.status.getLsbD i = false →
      (∃ ts, s.turns = .reset :: ts) ∨
        ∃ ts ops w, s.turns = .host :: ts ∧
          ((s.bus = .write 0x004 w 0xF :: ops ∧ w.getLsbD 1 = true) ∨
            (s.bus = .write 0x010 w 0xF :: ops ∧ w.getLsbD i = true))

/-- The interrupt output is high exactly while an enabled event bit is set, and STATUS.IRQ reads it
(60_exceptions.md R382, 10_state.md R35). -/
def Obligations.InterruptIsTheOrOfEnabledEvents : Prop :=
  ∀ s : State,
    (s.irq = true ↔ ∃ i, i < 8 ∧ s.evt.status.getLsbD i = true ∧ s.evt.enable.getLsbD i = true) ∧
      ((readReg (.ro .status) s).getLsbD 3 = s.irq)

/-- An access refused with ERROR changes no state but the used-up access and the response, and a refused
read returns 0 (20_memory.md R104). -/
def Obligations.RefusedAccessChangesNothing : Prop :=
  ∀ (s t : State) (op : BusOp), busAccess op s = .next t →
    (∀ d, t.busOut = some (.read .error d) → d = 0 ∧ t = { s with busOut := some (.read .error 0) }) ∧
      (t.busOut = some (.write .error) → t = { s with busOut := some (.write .error) })

/-- The address map of 20_memory.md R107: exactly the words of the table are mapped, each at its address, RAM
entries at and beyond MAX_TAPS or MAX_OSC not among them. An access to any other address, a misaligned one for
instance, is refused with ERROR and has no effect, and so is a write whose strobes are not all set (R102,
R103, R104). -/
def Obligations.AccessesOutsideTheMapAndPartialWritesAreRefused : Prop :=
  (∀ (a : Addr) (r : Reg), regAt a = some r ↔ regAddress r = a.toNat ∧ regExists r) ∧
    ∀ (s : State) (a : Addr) (w : Word) (strobes : BitVec 4),
      ((∀ r, regAddress r = a.toNat → ¬ regExists r) → busAccess (.read a) s =
        .next { s with busOut := some (.read .error 0) }) ∧
        (a.toNat % 4 ≠ 0 → ∀ r, regAddress r = a.toNat → ¬ regExists r) ∧
        (strobes ≠ 0xF ∨ (∀ r, regAddress r = a.toNat → ¬ regExists r) →
          busAccess (.write a w strobes) s = .next { s with busOut := some (.write .error) })

/-- Reads and their layouts, and the side effects of 20_memory.md R108: a mapped word reads the number its
layout in 10_state.md R31 to R59 gives; a read changes nothing but the response, so that repeating it gives
the same; a write to an RO register is answered OKAY and stores nothing; CMD_ARG0, CMD_ARG1 and EVT_ENABLE
store their bits, and a write to EVT_STATUS clears the bits written as ones (R37 and R39, 60_exceptions.md
R380). The MODEL's choices in the layouts: which SHIFT entries are specified is its own bookkeeping (log entry
6), and the second lane of SHIFT in stages 1 and 2 reads 0 in every state, right after reset and at and beyond
NTAPS too, where R60 and 93_implementation_defined.md I2 leave the word unspecified and R45 says that it "reads
as +0.0" (log entry 7, DEDUCED). -/
def Obligations.AccessesHaveTheirLayoutsAndSideEffects : Prop :=
  ∀ s : State,
    (∀ r v, registerValue s r = some v → (readReg r s).toNat = v) ∧
    (∀ a : Addr, ∃ t, busAccess (.read a) s = .next t ∧ t = { s with busOut := t.busOut } ∧
      t.busOut = (match regAt a with
        | none => some (.read .error 0)
        | some r => some (.read .okay (readReg r s))) ∧
      busAccess (.read a) t = .next t) ∧
      (∀ (a : Addr) (r : RoReg) (w : Word), regAt a = some (.ro r) →
        busAccess (.write a w 0xF) s = .next { s with busOut := some (.write .okay) }) ∧
      ∀ w : Word,
        busAccess (.write 0x024 w 0xF) s =
            .next { s with busOut := some (.write .okay), cmd := { s.cmd with arg0 := w } } ∧
          busAccess (.write 0x028 w 0xF) s =
            .next { s with busOut := some (.write .okay), cmd := { s.cmd with arg1 := w } } ∧
          busAccess (.write 0x014 w 0xF) s =
            .next { s with busOut := some (.write .okay), evt := { s.evt with enable := w.setWidth 8 } } ∧
          busAccess (.write 0x010 w 0xF) s =
            .next { s with
              busOut := some (.write .okay)
              evt := { s.evt with status := s.evt.status &&& ~~~(w.setWidth 8) } }

/-- The CFG write rule (20_memory.md R105): refused while RUN = 1; while RUN = 0 the write stores its bits,
which read back, reserved bits as 0, clears CONFIGURED, leaves every other CFG register and RAM word as it
was, and changes no other state of the block; a write to NTAPS may lower the bound of the specified SHIFT
entries, the model's own field (log entry 6). -/
def Obligations.CfgWriteStoresItsBitsAndUnconfigures : Prop :=
  ∀ (s : State) (a : Addr) (w : Word) (r : CfgReg), regAt a = some (.cfg r) →
    (s.ctrl.run = true →
      busAccess (.write a w 0xF) s = .next { s with busOut := some (.write .error) }) ∧
      (s.ctrl.run = false →
        ∃ t, busAccess (.write a w 0xF) s = .next t ∧ t.busOut = some (.write .okay) ∧
          readReg (.cfg r) t = w &&& cfgBits r ∧ t.ctrl = { s.ctrl with configured := false } ∧
          (∀ (b : Addr) (q : CfgReg), regAt b = some (.cfg q) → b ≠ a →
            readReg (.cfg q) t = readReg (.cfg q) s) ∧
          t = { s with
            ctrl := t.ctrl, busOut := t.busOut, stage0 := t.stage0, stage1 := t.stage1, stage2 := t.stage2
            cfg := t.cfg, mem := t.mem } ∧
          ∀ sid, (t.stage sid).oscN = (s.stage sid).oscN ∧ (t.stage sid).oscIdx = (s.stage sid).oscIdx ∧
            (t.stage sid).dcnt = (s.stage sid).dcnt ∧
            (t.stage sid).shiftStamps = (s.stage sid).shiftStamps ∧
            (t.stage sid).shiftLive = min (s.stage sid).shiftLive
              (if r = .ntaps sid then w.toNat else (s.stage sid).shiftLive))

/-- A word of SHIFT whose entry is not a specified one reads the same, free value until the entry is written:
no step changes it but a reset and a CONFIGURE with an NTAPS above the entry (10_state.md R45, 45_control.md
R348; 93_implementation_defined.md I2, "a 32-bit draw, stable until the entry is written"). The MODEL's choices
in it: the bound of the specified entries (log entry 6), and that the second lane of stages 1 and 2 is no free
value but reads 0 in every state (log entry 7). -/
def Obligations.ShiftWordsBeyondNtapsReadTheSameUntilWritten : Prop :=
  ∀ (s t : State) (sid : StageId) (k : Nat) (l : Lane), s.Consistent → step s = .next t →
    t.epoch = s.epoch → (s.stage sid).shiftLive ≤ k → (t.stage sid).shiftLive ≤ k →
      readReg (.ro (.shift sid k l)) t = readReg (.ro (.shift sid k l)) s

/-- Reset by `rst_n` and by a CTRL write with bit 1 leave the reset state, in which every register of
10_state.md R31 to R59 reads 0, but ID its constant, no RAM word is written, and m_valid and irq are 0
(70_reset_and_hazards.md R410, R411, 10_state.md R60). Any other CTRL write gives RUN bit 0 only while
CONFIGURED = 1 and FATAL = 0, and changes nothing else (45_control.md R343). The MODEL's choices in it: what
the agents still have to offer survives a reset (log entry 17), `epoch` and `configCount` count on (log
entry 13), and the tracker window resets to 0 (log entry 3). -/
def Obligations.ResetsRestoreTheResetValuesAndCtrlSetsALegalRun : Prop :=
  (∀ s : State, s = { State.reset with
      busOut := s.busOut, bus := s.bus, samples := s.samples, turns := s.turns, epoch := s.epoch
      configCount := s.configCount } →
    (∀ (a : Addr) (r : Reg), regAt a = some r → a.toNat < 0x1000 →
      readReg r s = if a = 0 then 0x53450001 else 0) ∧
      (∀ a, s.mem.readWord a = none) ∧ (∀ i, s.trk.slot i = 0) ∧ s.msgOut = none ∧ s.irq = false ∧
      s.sReady = false) ∧
    (∀ (s : State) (ts : List Turn), s.turns = .reset :: ts →
      step s =
        .next { State.reset with
          bus := s.bus, samples := s.samples, turns := ts, epoch := s.epoch + 1
          configCount := s.configCount }) ∧
    ∀ (s : State) (w : Word),
      (w.getLsbD 1 = true →
        busAccess (.write 0x004 w 0xF) s =
          .next { State.reset with
            busOut := some (.write .okay), bus := s.bus, samples := s.samples, turns := s.turns
            epoch := s.epoch + 1, configCount := s.configCount }) ∧
        (w.getLsbD 1 = false →
          busAccess (.write 0x004 w 0xF) s =
            .next { s with
              busOut := some (.write .okay)
              ctrl := { s.ctrl with run := w.getLsbD 0 && s.ctrl.configured && !s.ctrl.fatal } })

/-! ### The whole machine -/

/-- The state after reset is consistent: the invariant of the next statement holds where every run begins
(70_reset_and_hazards.md R410, 45_control.md R349). -/
def Obligations.ResetStateIsConsistent : Prop := State.reset.Consistent

/-- Every step keeps the consistency of the state (45_control.md R349, 60_exceptions.md R376 and R377,
10_state.md R34, R42, R52 to R55): the fatal state is never reached, RUN needs CONFIGURED, and a
configured block stays in range of a checked configuration. -/
def Obligations.StepKeepsConsistency : Prop :=
  ∀ s t : State, s.Consistent → step s = .next t → t.Consistent

/-- Configuration coherence (20_memory.md R112): a step that ends with CONFIGURED = 1 has changed no CFG
register and no CFG RAM word. -/
def Obligations.ConfiguredStepsKeepTheConfiguration : Prop :=
  ∀ s t : State, step s = .next t → t.ctrl.configured = true → SameConfiguration s t

/-- Every step keeps the written RAM words in canonical form, the model's own form (log entry 9). -/
def Obligations.StepKeepsMemoryCanonical : Prop :=
  ∀ s t : State, s.mem.wf → step s = .next t → t.mem.wf

/-- Only an unwritten table word stops the block, and no step is refused: ordinary data never ends a run
(10_state.md R60, 60_exceptions.md R377). -/
def Obligations.OnlyAnUnwrittenTableWordStopsTheBlock : Prop :=
  ∀ s : State,
    (∀ sid k, step s = .fault (.unwrittenCoef sid k) → s.mem.readWord (coefAddr sid k) = none) ∧
      (∀ sid k l, step s = .fault (.unwrittenOsc sid k l) → s.mem.readWord (oscAddr sid k l) = none) ∧
      ∀ m, step s ≠ .refused (.notModelled m)

/-- A consistent block whose tables are written goes on at every step, whatever its agents offer
(60_exceptions.md R377, 44_receiver.md R319, 70_reset_and_hazards.md R414). -/
def Obligations.ConsistentBlockWithTablesAlwaysGoesOn : Prop :=
  ∀ s : State, s.Consistent → s.TablesWritten → Completes (step s)
end

