-- ==== Sys2Proof/Laws/Bus.lean ====
section
/-! SUPPORT. What one bus access can do, case by case (20_memory.md R102 to R105), and the step as the turn
it takes (00_scope.md R7). -/

namespace Sys2Proof.Machine

theorem regAt_cmd : regAt 0x020 = some (.rw .cmd) := rfl

theorem regAt_ctrl : regAt 0x004 = some (.rw .ctrl) := rfl

theorem regAt_evtStatus : regAt 0x010 = some (.rw .evtStatus) := rfl

/-- No misaligned address is mapped (20_memory.md R102). -/
theorem regAt_misaligned {a : Addr} (h : a.toNat % 4 ≠ 0) : regAt a = none := by simp [regAt, h]

theorem generalReg_address {n : Nat} {r : Reg} (h : generalReg n = some r) : regAddress r = n := by
  unfold generalReg at h
  split at h <;> cases h <;> rfl

theorem rxConfigReg_address {n : Nat} {r : Reg} (h : rxConfigReg n = some r) : regAddress r = n := by
  unfold rxConfigReg at h
  split at h <;> cases h <;> rfl

theorem runtimeReg_address {n : Nat} {r : Reg} (h : runtimeReg n = some r) : regAddress r = n := by
  unfold runtimeReg at h
  split at h <;> cases h <;> rfl

theorem stageReg_address {s : StageId} {n : Nat} {r : Reg} (h : stageReg s n = some r) :
    regAddress r = 0x100 + 0x40 * s.num + n := by
  unfold stageReg at h
  split at h <;> cases h <;> simp only [regAddress] <;> omega

theorem vendorReg_address {v : BitVec 2} {n : Nat} {r : Reg} (h : vendorReg v n = some r) :
    regAddress r = 0x300 + 0x40 * v.toNat + n := by
  unfold vendorReg at h
  split at h <;> cases h <;> simp [regAddress] <;> omega

theorem stageOfNat_num {n : Nat} {s : StageId} (h : stageOfNat n = some s) : s.num = n := by
  unfold stageOfNat at h
  split at h <;> cases h <;> rfl

theorem laneOfOffset_offset {n : Nat} (h : n % 4 = 0) : (laneOfOffset n).offset = n % 8 := by
  unfold laneOfOffset
  split_ifs <;> simp [Lane.offset] <;> omega

theorem ramReg_address {a b n : Nat} {r : Reg} (h4 : n % 4 = 0) (hlo : 0x1000 ≤ n)
    (h : ramReg a b n = some r) : regAddress r = n := by
  have hl := laneOfOffset_offset h4
  unfold ramReg at h
  split at h <;> [skip; split at h] <;> rw [Option.bind_eq_some_iff] at h <;> obtain ⟨s, hs, h⟩ := h <;>
    have hn := stageOfNat_num hs <;> split at h <;> cases h
  · simp only [regAddress, coefAddr, hn]
    omega
  · simp only [regAddress, oscAddr, hn, hl]
    omega
  · simp only [regAddress, shiftAddr, hn, hl]
    omega

/-- A mapped word stands at its own address, so no two addresses hold one register (R107). -/
theorem regAt_address {a : Addr} {r : Reg} (h : regAt a = some r) : regAddress r = a.toNat := by
  have ha := a.isLt
  unfold regAt at h
  simp only at h
  split_ifs at h with h0 h1 h2 h3 h4 h5 h6 h7
  · exact generalReg_address h
  · rw [Option.bind_eq_some_iff] at h
    obtain ⟨s, hs, h⟩ := h
    rw [stageReg_address h, stageOfNat_num hs]
    omega
  · exact rxConfigReg_address h
  · rw [vendorReg_address h]
    simp
    omega
  · exact runtimeReg_address h
  · cases h
    simp [regAddress]
    omega
  · exact runtimeReg_address h
  · exact ramReg_address (by omega) (by omega) h

theorem regAt_injective {a b : Addr} {r : Reg} (ha : regAt a = some r) (hb : regAt b = some r) : a = b :=
  BitVec.eq_of_toNat_eq ((regAt_address ha).symm.trans (regAt_address hb))

/-- What an unmapped read does (20_memory.md R104). -/
theorem busRead_unmapped {a : Addr} {s : State} (h : regAt a = none) :
    busRead a s = { s with busOut := some (.read .error 0) } := by simp [busRead, h, respond]

theorem busRead_mapped {a : Addr} {s : State} {r : Reg} (h : regAt a = some r) :
    busRead a s = { s with busOut := some (.read .okay (readReg r s)) } := by simp [busRead, h, respond]

/-- A read changes nothing but its response (20_memory.md R108). -/
theorem busRead_frame (a : Addr) (s : State) : busRead a s = { s with busOut := (busRead a s).busOut } := by
  unfold busRead; split <;> rfl

theorem setStage_frame (s : State) (sid : StageId) (r : StageRegs) :
    s.setStage sid r =
      { s with
        stage0 := (s.setStage sid r).stage0, stage1 := (s.setStage sid r).stage1
        stage2 := (s.setStage sid r).stage2 } := by
  cases sid <;> rfl

@[simp] theorem setStage_stage_self (s : State) (sid : StageId) (r : StageRegs) :
    (s.setStage sid r).stage sid = r := by cases sid <;> rfl

theorem setStage_stage_other (s : State) {sid sid' : StageId} (r : StageRegs) (h : sid' ≠ sid) :
    (s.setStage sid r).stage sid' = s.stage sid' := by
  cases sid <;> cases sid' <;> first | rfl | exact absurd rfl h

/-- A stored CFG write touches configuration and RAM words alone (20_memory.md R105). -/
theorem storeCfg_frame (r : CfgReg) (w : Word) (s : State) :
    storeCfg r w s =
      { s with
        stage0 := (storeCfg r w s).stage0, stage1 := (storeCfg r w s).stage1
        stage2 := (storeCfg r w s).stage2, cfg := (storeCfg r w s).cfg, mem := (storeCfg r w s).mem } := by
  cases r with
  | ntaps sid => cases sid <;> rfl
  | decim sid => cases sid <;> rfl
  | fs sid => cases sid <;> rfl
  | ftrans sid => cases sid <;> rfl
  | transEn sid => cases sid <;> rfl
  | _ => rfl

/-- A stored CFG write leaves each stage's run-time registers as they were (20_memory.md R105), and the
stamps of its shift register. -/
theorem storeCfg_stage (r : CfgReg) (w : Word) (s : State) (sid : StageId) :
    ((storeCfg r w s).stage sid).oscN = (s.stage sid).oscN ∧
      ((storeCfg r w s).stage sid).oscIdx = (s.stage sid).oscIdx ∧
      ((storeCfg r w s).stage sid).dcnt = (s.stage sid).dcnt ∧
      ((storeCfg r w s).stage sid).shiftStamps = (s.stage sid).shiftStamps := by
  cases r with
  | ntaps sid' => cases sid <;> cases sid' <;> exact ⟨rfl, rfl, rfl, rfl⟩
  | decim sid' => cases sid <;> cases sid' <;> exact ⟨rfl, rfl, rfl, rfl⟩
  | fs sid' => cases sid <;> cases sid' <;> exact ⟨rfl, rfl, rfl, rfl⟩
  | ftrans sid' => cases sid <;> cases sid' <;> exact ⟨rfl, rfl, rfl, rfl⟩
  | transEn sid' => cases sid <;> cases sid' <;> exact ⟨rfl, rfl, rfl, rfl⟩
  | _ => cases sid <;> exact ⟨rfl, rfl, rfl, rfl⟩

@[simp] theorem writeNtaps_ntaps (w : Word) (r : StageRegs) : (writeNtaps w r).ntaps = w := rfl

@[simp] theorem writeNtaps_shiftLive (w : Word) (r : StageRegs) :
    (writeNtaps w r).shiftLive = min r.shiftLive w.toNat := rfl

/-- A stored CFG write never makes an entry of SHIFT a specified one: a write to NTAPS may lower the bound,
every other write leaves it (10_state.md R45). -/
theorem storeCfg_live (r : CfgReg) (w : Word) (s : State) (sid : StageId) :
    ((storeCfg r w s).stage sid).shiftLive =
      min (s.stage sid).shiftLive (if r = .ntaps sid then w.toNat else (s.stage sid).shiftLive) := by
  cases r with
  | ntaps sid' =>
    cases sid <;> cases sid' <;>
      simp [storeCfg, updateStage, State.setStage, State.stage]
  | decim sid' => cases sid <;> cases sid' <;> exact (Nat.min_self _).symm
  | fs sid' => cases sid <;> cases sid' <;> exact (Nat.min_self _).symm
  | ftrans sid' => cases sid <;> cases sid' <;> exact (Nat.min_self _).symm
  | transEn sid' => cases sid <;> cases sid' <;> exact (Nat.min_self _).symm
  | _ => cases sid <;> exact (Nat.min_self _).symm

/-- Everything a bus read of SHIFT can answer: the draw of a word not written since reset, the held word
where the entry is specified or the lane always 0, the entry's own draw elsewhere (10_state.md R45). -/
theorem readShift_cases (s : State) (sid : StageId) (t : Nat) (l : Lane) :
    (storedShiftWord s sid t l = none ∧
        readShift s sid t l = Config.unwrittenWord s.epoch (shiftAddr sid t l)) ∨
      ∃ w, storedShiftWord s sid t l = some w ∧
        (((laneIsZero sid l ∨ t < specifiedTaps (s.stage sid)) ∧ readShift s sid t l = w) ∨
          (¬ (laneIsZero sid l ∨ t < specifiedTaps (s.stage sid)) ∧
            readShift s sid t l =
              Config.staleShiftWord ((s.stage sid).shiftStamps.getD t 0) (shiftAddr sid t l))) := by
  unfold readShift
  split
  · exact .inl ⟨by assumption, rfl⟩
  · rename_i w e
    refine .inr ⟨w, e, ?_⟩
    split
    · exact .inl ⟨by assumption, rfl⟩
    · exact .inr ⟨by assumption, rfl⟩

/-- Everything a bus write can do (20_memory.md R102 to R105, R108). -/
theorem busWrite_cases (a : Addr) (w : Word) (strobes : BitVec 4) (s : State) :
    ((strobes ≠ 0xF ∨ regAt a = none ∨ (∃ r, regAt a = some (.cfg r)) ∧ s.ctrl.run = true) ∧
        busWrite a w strobes s = .next { s with busOut := some (.write .error) }) ∨
      (strobes = 0xF ∧ (∃ r, regAt a = some (.ro r)) ∧
        busWrite a w strobes s = .next { s with busOut := some (.write .okay) }) ∨
      (∃ r, strobes = 0xF ∧ regAt a = some (.rw r) ∧
        busWrite a w strobes s = writeRw r w { s with busOut := some (.write .okay) }) ∨
      (∃ r, strobes = 0xF ∧ regAt a = some (.cfg r) ∧ s.ctrl.run = false ∧
        busWrite a w strobes s = .next (writeCfg r w { s with busOut := some (.write .okay) })) := by
  unfold busWrite
  by_cases hs : strobes = 0xF
  · rw [if_pos hs]
    rcases hr : regAt a with - | r
    · exact .inl ⟨.inr (.inl rfl), rfl⟩
    · rcases r with r | r | r
      · exact .inr (.inl ⟨hs, ⟨r, rfl⟩, rfl⟩)
      · exact .inr (.inr (.inl ⟨r, hs, rfl, rfl⟩))
      · cases hrun : s.ctrl.run
        · exact .inr (.inr (.inr ⟨r, hs, rfl, rfl, rfl⟩))
        · exact .inl ⟨.inr (.inr ⟨⟨r, rfl⟩, rfl⟩), rfl⟩
  · rw [if_neg hs]
    exact .inl ⟨.inl hs, rfl⟩

/-- Everything a step can do, by the turn it takes (00_scope.md R7). -/
theorem step_cases (s : State) :
    (s.turns = [] ∧ step s = .next (quiet s)) ∨
      (∃ ts, s.turns = .reset :: ts ∧ step s = .next (resetBlock { quiet s with turns := ts })) ∨
      (∃ ts, s.turns = .host :: ts ∧ s.bus = [] ∧ step s = .next { quiet s with turns := ts }) ∨
      (∃ ts op ops, s.turns = .host :: ts ∧ s.bus = op :: ops ∧
        step s = busAccess op { quiet s with turns := ts, bus := ops }) ∨
      (∃ ts, s.turns = .producer :: ts ∧ (s.samples = [] ∨ s.ctrl.run = false) ∧
        step s = .next { quiet s with turns := ts }) ∨
      (∃ ts x xs, s.turns = .producer :: ts ∧ s.samples = x :: xs ∧ s.ctrl.run = true ∧
        step s = outcomeOf (pipelineStep x { quiet s with turns := ts, samples := xs })) := by
  unfold step stepOnce
  rcases ht : s.turns with - | ⟨t, ts⟩
  · exact .inl ⟨rfl, rfl⟩
  · cases t
    · rcases hb : s.bus with - | ⟨op, ops⟩
      · exact .inr (.inr (.inl ⟨ts, rfl, rfl, by simp [takeTurn, hostTurn, quiet, hb]⟩))
      · exact .inr (.inr (.inr (.inl ⟨ts, op, ops, rfl, rfl, by simp [takeTurn, hostTurn, quiet, hb]⟩)))
    · rcases hx : s.samples with - | ⟨x, xs⟩
      · exact .inr (.inr (.inr (.inr (.inl
          ⟨ts, rfl, .inl rfl, by simp [takeTurn, producerTurn, quiet, hx]⟩))))
      · cases hr : s.ctrl.run
        · exact .inr (.inr (.inr (.inr (.inl
            ⟨ts, rfl, .inr rfl, by simp [takeTurn, producerTurn, quiet, hx, State.sReady, hr]⟩))))
        · exact .inr (.inr (.inr (.inr (.inr
            ⟨ts, x, xs, rfl, rfl, rfl, by simp [takeTurn, producerTurn, quiet, hx, State.sReady, hr]⟩))))
    · exact .inr (.inl ⟨ts, rfl, rfl⟩)

end Sys2Proof.Machine
end

