-- ==== Sys2Proof/Laws/Config.lean ====
section
/-! SUPPORT. The bounds of the build-time parameters (00_scope.md R8). -/

namespace Sys2Proof.Config

theorem maxTaps_odd : maxTaps % 2 = 1 := by simp [maxTaps]

theorem one_le_maxTaps : 1 ≤ maxTaps := by simp [maxTaps]

theorem maxTaps_le : maxTaps ≤ 1023 := by
  have := Nat.mod_lt maxTapsDraw (show 0 < 512 by decide)
  unfold maxTaps; omega

theorem one_le_maxOsc : 1 ≤ maxOsc := by simp [maxOsc]

theorem maxOsc_le : maxOsc ≤ 1024 := by
  have := Nat.mod_lt maxOscDraw (show 0 < 1024 by decide)
  unfold maxOsc; omega

end Sys2Proof.Config
end

