-- ==== Sys2Proof/Laws/Exec.lean ====
section
/-! SUPPORT. The mode checks of a component command said once, its operand checks, and what the control
commands do, for citing instead of unfolding (45_control.md R341, R342, R345). -/

namespace Sys2Proof.Machine

theorem component_busy {body : State → Host.Outcome State Fault Refusal} {s : State}
    (h : s.ctrl.run = true) : component body s = .next (cmdError codeBusy s) := by
  simp [component, h]

theorem component_unconfigured {body : State → Host.Outcome State Fault Refusal} {s : State}
    (hr : s.ctrl.run = false) (hc : s.ctrl.configured = false) :
    component body s = .next (cmdError codeNotConfigured s) := by
  simp [component, hr, hc]

theorem component_paused {body : State → Host.Outcome State Fault Refusal} {s : State}
    (hr : s.ctrl.run = false) (hc : s.ctrl.configured = true) : component body s = body s := by
  simp [component, hr, hc]

/-- Everything a component command can do (45_control.md R342). -/
theorem component_cases (body : State → Host.Outcome State Fault Refusal) (s : State) :
    (s.ctrl.run = true ∧ component body s = .next (cmdError codeBusy s)) ∨
      (s.ctrl.run = false ∧ s.ctrl.configured = false ∧
        component body s = .next (cmdError codeNotConfigured s)) ∨
      (s.ctrl.run = false ∧ s.ctrl.configured = true ∧ component body s = body s) := by
  cases hr : s.ctrl.run
  · cases hc : s.ctrl.configured
    · exact .inr (.inl ⟨rfl, rfl, component_unconfigured hr hc⟩)
    · exact .inr (.inr ⟨rfl, rfl, component_paused hr hc⟩)
  · exact .inl ⟨rfl, component_busy hr⟩

/-- The stage a SEL in range names (30_encoding.md R132). -/
theorem stageOfSel_of_num {sel : BitVec 2} {sid : StageId} (h : sel.toNat = sid.num) :
    stageOfSel sel = some sid := by
  cases sid <;> simp [StageId.num] at h <;> simp [stageOfSel, h]

theorem stageOfSel_of_lt {sel : BitVec 2} (h : sel.toNat < 3) :
    ∃ sid, stageOfSel sel = some sid ∧ sel.toNat = sid.num := by
  revert sel; decide

/-- The only SEL that names no stage is 3 (30_encoding.md R132). -/
theorem stageOfSel_eq_none {sel : BitVec 2} (h : ¬ sel.toNat < 3) : stageOfSel sel = none := by
  revert sel; decide

theorem crcBitCount_of_le {n : BitVec 6} (h : n.toNat ≤ 32) : crcBitCount n = some n.toNat := if_pos h

theorem crcBitCount_eq_none {n : BitVec 6} (h : ¬ n.toNat ≤ 32) : crcBitCount n = none := if_neg h

/-- Everything CONFIGURE can do (45_control.md R345). -/
theorem execConfigure_cases (s : State) :
    (s.ctrl.run = true ∧ execConfigure s = .next (cmdError codeBusy s)) ∨
      (∃ code index, s.ctrl.run = false ∧
        checkConfig Config.maxTaps Config.maxOsc s = some (code, index) ∧
        execConfigure s = .next (configureFailed code index s)) ∨
      (s.ctrl.run = false ∧ checkConfig Config.maxTaps Config.maxOsc s = none ∧
        execConfigure s = .next (finish (configureDone s))) := by
  unfold execConfigure
  cases hr : s.ctrl.run
  · cases hc : checkConfig Config.maxTaps Config.maxOsc s with
    | none => exact .inr (.inr ⟨rfl, rfl, rfl⟩)
    | some e => exact .inr (.inl ⟨e.1, e.2, rfl, rfl, rfl⟩)
  · exact .inl ⟨rfl, rfl⟩

@[simp] theorem initStage_ntaps (n : Nat) (r : StageRegs) : (initStage n r).ntaps = r.ntaps := rfl

@[simp] theorem initStage_shiftLive (n : Nat) (r : StageRegs) :
    (initStage n r).shiftLive = r.ntaps.toNat := rfl

/-- CONFIGURE leaves an entry of SHIFT at or beyond NTAPS as it was (45_control.md R348). -/
theorem initShift_getElem? {α : Type} (zero : α) {r : StageRegs} (sh : List α) {t : Nat}
    (h : r.ntaps.toNat ≤ t) : (initShift zero r sh)[t]? = sh[t]? := by
  unfold initShift
  rw [List.getElem?_append_right (by simpa using h), List.getElem?_drop, List.length_replicate,
    Nat.add_sub_cancel' h]

/-- CONFIGURE leaves the stamp of such an entry, and with it what a bus read of it draws (R348, 10_state.md
R45). -/
theorem initStage_stamp (n : Nat) {r : StageRegs} {t : Nat} (h : r.ntaps.toNat ≤ t) :
    (initStage n r).shiftStamps.getD t 0 = r.shiftStamps.getD t 0 := by
  have e : (initStage n r).shiftStamps[t]? = r.shiftStamps[t]? := initShift_getElem? n r.shiftStamps h
  rw [List.getD_eq_getElem?_getD, e, List.getD_eq_getElem?_getD]

/-- A rejected command touches the command registers and the events alone (45_control.md R341). -/
theorem cmdError_frame (code : BitVec 4) (s : State) :
    cmdError code s = { s with cmd := (cmdError code s).cmd, evt := (cmdError code s).evt } := rfl

end Sys2Proof.Machine
end

