-- ==== Sys2Proof/Laws/State.lean ====
section
/-! SUPPORT. What each shared update of the state leaves in each field, so that no proof unfolds a record
update. -/

namespace Sys2Proof.Machine

section
variable (s : State)


@[simp] theorem raise_ctrl (e : Event) : (raise e s).ctrl = s.ctrl := rfl
@[simp] theorem raise_evt (e : Event) :
    (raise e s).evt = { s.evt with status := s.evt.status ||| eventBit e } := rfl
@[simp] theorem raise_cmd (e : Event) : (raise e s).cmd = s.cmd := rfl
@[simp] theorem raise_stage0 (e : Event) : (raise e s).stage0 = s.stage0 := rfl
@[simp] theorem raise_stage1 (e : Event) : (raise e s).stage1 = s.stage1 := rfl
@[simp] theorem raise_stage2 (e : Event) : (raise e s).stage2 = s.stage2 := rfl
@[simp] theorem raise_shift0 (e : Event) : (raise e s).shift0 = s.shift0 := rfl
@[simp] theorem raise_shift1 (e : Event) : (raise e s).shift1 = s.shift1 := rfl
@[simp] theorem raise_shift2 (e : Event) : (raise e s).shift2 = s.shift2 := rfl
@[simp] theorem raise_mem (e : Event) : (raise e s).mem = s.mem := rfl
@[simp] theorem raise_cfg (e : Event) : (raise e s).cfg = s.cfg := rfl
@[simp] theorem raise_rx (e : Event) : (raise e s).rx = s.rx := rfl
@[simp] theorem raise_trk (e : Event) : (raise e s).trk = s.trk := rfl
@[simp] theorem raise_man (e : Event) : (raise e s).man = s.man := rfl
@[simp] theorem raise_crc (e : Event) : (raise e s).crc = s.crc := rfl
@[simp] theorem raise_cur (e : Event) : (raise e s).cur = s.cur := rfl
@[simp] theorem raise_msg (e : Event) : (raise e s).msg = s.msg := rfl
@[simp] theorem raise_counters (e : Event) : (raise e s).counters = s.counters := rfl
@[simp] theorem raise_busOut (e : Event) : (raise e s).busOut = s.busOut := rfl
@[simp] theorem raise_msgOut (e : Event) : (raise e s).msgOut = s.msgOut := rfl
@[simp] theorem raise_bus (e : Event) : (raise e s).bus = s.bus := rfl
@[simp] theorem raise_samples (e : Event) : (raise e s).samples = s.samples := rfl
@[simp] theorem raise_turns (e : Event) : (raise e s).turns = s.turns := rfl
@[simp] theorem raise_epoch (e : Event) : (raise e s).epoch = s.epoch := rfl
@[simp] theorem raise_configCount (e : Event) : (raise e s).configCount = s.configCount := rfl

@[simp] theorem count_ctrl (c : CounterId) : (count c s).ctrl = s.ctrl := rfl
@[simp] theorem count_evt (c : CounterId) : (count c s).evt = s.evt := rfl
@[simp] theorem count_cmd (c : CounterId) : (count c s).cmd = s.cmd := rfl
@[simp] theorem count_stage0 (c : CounterId) : (count c s).stage0 = s.stage0 := rfl
@[simp] theorem count_stage1 (c : CounterId) : (count c s).stage1 = s.stage1 := rfl
@[simp] theorem count_stage2 (c : CounterId) : (count c s).stage2 = s.stage2 := rfl
@[simp] theorem count_shift0 (c : CounterId) : (count c s).shift0 = s.shift0 := rfl
@[simp] theorem count_shift1 (c : CounterId) : (count c s).shift1 = s.shift1 := rfl
@[simp] theorem count_shift2 (c : CounterId) : (count c s).shift2 = s.shift2 := rfl
@[simp] theorem count_mem (c : CounterId) : (count c s).mem = s.mem := rfl
@[simp] theorem count_cfg (c : CounterId) : (count c s).cfg = s.cfg := rfl
@[simp] theorem count_rx (c : CounterId) : (count c s).rx = s.rx := rfl
@[simp] theorem count_trk (c : CounterId) : (count c s).trk = s.trk := rfl
@[simp] theorem count_man (c : CounterId) : (count c s).man = s.man := rfl
@[simp] theorem count_crc (c : CounterId) : (count c s).crc = s.crc := rfl
@[simp] theorem count_cur (c : CounterId) : (count c s).cur = s.cur := rfl
@[simp] theorem count_msg (c : CounterId) : (count c s).msg = s.msg := rfl
@[simp] theorem count_counters (c : CounterId) : (count c s).counters = s.counters.bump c := rfl
@[simp] theorem count_busOut (c : CounterId) : (count c s).busOut = s.busOut := rfl
@[simp] theorem count_msgOut (c : CounterId) : (count c s).msgOut = s.msgOut := rfl
@[simp] theorem count_bus (c : CounterId) : (count c s).bus = s.bus := rfl
@[simp] theorem count_samples (c : CounterId) : (count c s).samples = s.samples := rfl
@[simp] theorem count_turns (c : CounterId) : (count c s).turns = s.turns := rfl
@[simp] theorem count_epoch (c : CounterId) : (count c s).epoch = s.epoch := rfl
@[simp] theorem count_configCount (c : CounterId) : (count c s).configCount = s.configCount := rfl

@[simp] theorem finish_ctrl : (finish s).ctrl = s.ctrl := rfl
@[simp] theorem finish_evt : (finish s).evt = s.evt := rfl
@[simp] theorem finish_cmd : (finish s).cmd = { s.cmd with code := codeOk, valid := false } := rfl
@[simp] theorem finish_stage0 : (finish s).stage0 = s.stage0 := rfl
@[simp] theorem finish_stage1 : (finish s).stage1 = s.stage1 := rfl
@[simp] theorem finish_stage2 : (finish s).stage2 = s.stage2 := rfl
@[simp] theorem finish_shift0 : (finish s).shift0 = s.shift0 := rfl
@[simp] theorem finish_shift1 : (finish s).shift1 = s.shift1 := rfl
@[simp] theorem finish_shift2 : (finish s).shift2 = s.shift2 := rfl
@[simp] theorem finish_mem : (finish s).mem = s.mem := rfl
@[simp] theorem finish_cfg : (finish s).cfg = s.cfg := rfl
@[simp] theorem finish_rx : (finish s).rx = s.rx := rfl
@[simp] theorem finish_trk : (finish s).trk = s.trk := rfl
@[simp] theorem finish_man : (finish s).man = s.man := rfl
@[simp] theorem finish_crc : (finish s).crc = s.crc := rfl
@[simp] theorem finish_cur : (finish s).cur = s.cur := rfl
@[simp] theorem finish_msg : (finish s).msg = s.msg := rfl
@[simp] theorem finish_counters : (finish s).counters = s.counters := rfl
@[simp] theorem finish_busOut : (finish s).busOut = s.busOut := rfl
@[simp] theorem finish_msgOut : (finish s).msgOut = s.msgOut := rfl
@[simp] theorem finish_bus : (finish s).bus = s.bus := rfl
@[simp] theorem finish_samples : (finish s).samples = s.samples := rfl
@[simp] theorem finish_turns : (finish s).turns = s.turns := rfl
@[simp] theorem finish_epoch : (finish s).epoch = s.epoch := rfl
@[simp] theorem finish_configCount : (finish s).configCount = s.configCount := rfl

@[simp] theorem finishWith_ctrl (a b : Word) (v : Bool) : (finishWith a b v s).ctrl = s.ctrl := rfl
@[simp] theorem finishWith_evt (a b : Word) (v : Bool) : (finishWith a b v s).evt = s.evt := rfl
@[simp] theorem finishWith_cmd (a b : Word) (v : Bool) :
    (finishWith a b v s).cmd = { s.cmd with res0 := a, res1 := b, valid := v, code := codeOk } := rfl
@[simp] theorem finishWith_stage0 (a b : Word) (v : Bool) : (finishWith a b v s).stage0 = s.stage0 := rfl
@[simp] theorem finishWith_stage1 (a b : Word) (v : Bool) : (finishWith a b v s).stage1 = s.stage1 := rfl
@[simp] theorem finishWith_stage2 (a b : Word) (v : Bool) : (finishWith a b v s).stage2 = s.stage2 := rfl
@[simp] theorem finishWith_shift0 (a b : Word) (v : Bool) : (finishWith a b v s).shift0 = s.shift0 := rfl
@[simp] theorem finishWith_shift1 (a b : Word) (v : Bool) : (finishWith a b v s).shift1 = s.shift1 := rfl
@[simp] theorem finishWith_shift2 (a b : Word) (v : Bool) : (finishWith a b v s).shift2 = s.shift2 := rfl
@[simp] theorem finishWith_mem (a b : Word) (v : Bool) : (finishWith a b v s).mem = s.mem := rfl
@[simp] theorem finishWith_cfg (a b : Word) (v : Bool) : (finishWith a b v s).cfg = s.cfg := rfl
@[simp] theorem finishWith_rx (a b : Word) (v : Bool) : (finishWith a b v s).rx = s.rx := rfl
@[simp] theorem finishWith_trk (a b : Word) (v : Bool) : (finishWith a b v s).trk = s.trk := rfl
@[simp] theorem finishWith_man (a b : Word) (v : Bool) : (finishWith a b v s).man = s.man := rfl
@[simp] theorem finishWith_crc (a b : Word) (v : Bool) : (finishWith a b v s).crc = s.crc := rfl
@[simp] theorem finishWith_cur (a b : Word) (v : Bool) : (finishWith a b v s).cur = s.cur := rfl
@[simp] theorem finishWith_msg (a b : Word) (v : Bool) : (finishWith a b v s).msg = s.msg := rfl
@[simp] theorem finishWith_counters (a b : Word) (v : Bool) :
    (finishWith a b v s).counters = s.counters := rfl
@[simp] theorem finishWith_busOut (a b : Word) (v : Bool) : (finishWith a b v s).busOut = s.busOut := rfl
@[simp] theorem finishWith_msgOut (a b : Word) (v : Bool) : (finishWith a b v s).msgOut = s.msgOut := rfl
@[simp] theorem finishWith_bus (a b : Word) (v : Bool) : (finishWith a b v s).bus = s.bus := rfl
@[simp] theorem finishWith_samples (a b : Word) (v : Bool) : (finishWith a b v s).samples = s.samples := rfl
@[simp] theorem finishWith_turns (a b : Word) (v : Bool) : (finishWith a b v s).turns = s.turns := rfl
@[simp] theorem finishWith_epoch (a b : Word) (v : Bool) : (finishWith a b v s).epoch = s.epoch := rfl
@[simp] theorem finishWith_configCount (a b : Word) (v : Bool) :
    (finishWith a b v s).configCount = s.configCount := rfl

@[simp] theorem cmdError_ctrl (c : BitVec 4) : (cmdError c s).ctrl = s.ctrl := rfl
@[simp] theorem cmdError_evt (c : BitVec 4) :
    (cmdError c s).evt = { s.evt with status := s.evt.status ||| eventBit .cmdErr } := rfl
@[simp] theorem cmdError_cmd (c : BitVec 4) :
    (cmdError c s).cmd = { s.cmd with code := c, valid := false } := rfl
@[simp] theorem cmdError_stage0 (c : BitVec 4) : (cmdError c s).stage0 = s.stage0 := rfl
@[simp] theorem cmdError_stage1 (c : BitVec 4) : (cmdError c s).stage1 = s.stage1 := rfl
@[simp] theorem cmdError_stage2 (c : BitVec 4) : (cmdError c s).stage2 = s.stage2 := rfl
@[simp] theorem cmdError_shift0 (c : BitVec 4) : (cmdError c s).shift0 = s.shift0 := rfl
@[simp] theorem cmdError_shift1 (c : BitVec 4) : (cmdError c s).shift1 = s.shift1 := rfl
@[simp] theorem cmdError_shift2 (c : BitVec 4) : (cmdError c s).shift2 = s.shift2 := rfl
@[simp] theorem cmdError_mem (c : BitVec 4) : (cmdError c s).mem = s.mem := rfl
@[simp] theorem cmdError_cfg (c : BitVec 4) : (cmdError c s).cfg = s.cfg := rfl
@[simp] theorem cmdError_rx (c : BitVec 4) : (cmdError c s).rx = s.rx := rfl
@[simp] theorem cmdError_trk (c : BitVec 4) : (cmdError c s).trk = s.trk := rfl
@[simp] theorem cmdError_man (c : BitVec 4) : (cmdError c s).man = s.man := rfl
@[simp] theorem cmdError_crc (c : BitVec 4) : (cmdError c s).crc = s.crc := rfl
@[simp] theorem cmdError_cur (c : BitVec 4) : (cmdError c s).cur = s.cur := rfl
@[simp] theorem cmdError_msg (c : BitVec 4) : (cmdError c s).msg = s.msg := rfl
@[simp] theorem cmdError_counters (c : BitVec 4) : (cmdError c s).counters = s.counters := rfl
@[simp] theorem cmdError_busOut (c : BitVec 4) : (cmdError c s).busOut = s.busOut := rfl
@[simp] theorem cmdError_msgOut (c : BitVec 4) : (cmdError c s).msgOut = s.msgOut := rfl
@[simp] theorem cmdError_bus (c : BitVec 4) : (cmdError c s).bus = s.bus := rfl
@[simp] theorem cmdError_samples (c : BitVec 4) : (cmdError c s).samples = s.samples := rfl
@[simp] theorem cmdError_turns (c : BitVec 4) : (cmdError c s).turns = s.turns := rfl
@[simp] theorem cmdError_epoch (c : BitVec 4) : (cmdError c s).epoch = s.epoch := rfl
@[simp] theorem cmdError_configCount (c : BitVec 4) : (cmdError c s).configCount = s.configCount := rfl

@[simp] theorem fatalAction_ctrl :
    (fatalAction s).ctrl = { s.ctrl with fatal := true, run := false, errCode := errUnreachableState, errIndex := 0 } := rfl
@[simp] theorem fatalAction_evt :
    (fatalAction s).evt = { s.evt with status := s.evt.status ||| eventBit .fatal } := rfl
@[simp] theorem fatalAction_cmd : (fatalAction s).cmd = s.cmd := rfl
@[simp] theorem fatalAction_stage0 : (fatalAction s).stage0 = s.stage0 := rfl
@[simp] theorem fatalAction_stage1 : (fatalAction s).stage1 = s.stage1 := rfl
@[simp] theorem fatalAction_stage2 : (fatalAction s).stage2 = s.stage2 := rfl
@[simp] theorem fatalAction_shift0 : (fatalAction s).shift0 = s.shift0 := rfl
@[simp] theorem fatalAction_shift1 : (fatalAction s).shift1 = s.shift1 := rfl
@[simp] theorem fatalAction_shift2 : (fatalAction s).shift2 = s.shift2 := rfl
@[simp] theorem fatalAction_mem : (fatalAction s).mem = s.mem := rfl
@[simp] theorem fatalAction_cfg : (fatalAction s).cfg = s.cfg := rfl
@[simp] theorem fatalAction_rx : (fatalAction s).rx = s.rx := rfl
@[simp] theorem fatalAction_trk : (fatalAction s).trk = s.trk := rfl
@[simp] theorem fatalAction_man : (fatalAction s).man = s.man := rfl
@[simp] theorem fatalAction_crc : (fatalAction s).crc = s.crc := rfl
@[simp] theorem fatalAction_cur : (fatalAction s).cur = s.cur := rfl
@[simp] theorem fatalAction_msg : (fatalAction s).msg = s.msg := rfl
@[simp] theorem fatalAction_counters : (fatalAction s).counters = s.counters := rfl
@[simp] theorem fatalAction_busOut : (fatalAction s).busOut = s.busOut := rfl
@[simp] theorem fatalAction_msgOut : (fatalAction s).msgOut = s.msgOut := rfl
@[simp] theorem fatalAction_bus : (fatalAction s).bus = s.bus := rfl
@[simp] theorem fatalAction_samples : (fatalAction s).samples = s.samples := rfl
@[simp] theorem fatalAction_turns : (fatalAction s).turns = s.turns := rfl
@[simp] theorem fatalAction_epoch : (fatalAction s).epoch = s.epoch := rfl
@[simp] theorem fatalAction_configCount : (fatalAction s).configCount = s.configCount := rfl

@[simp] theorem latchCommand_ctrl (w : Word) : (latchCommand w s).ctrl = s.ctrl := rfl
@[simp] theorem latchCommand_evt (w : Word) : (latchCommand w s).evt = s.evt := rfl
@[simp] theorem latchCommand_cmd (w : Word) :
    (latchCommand w s).cmd = { s.cmd with cmd := w, opcode := opcField w } := rfl
@[simp] theorem latchCommand_stage0 (w : Word) : (latchCommand w s).stage0 = s.stage0 := rfl
@[simp] theorem latchCommand_stage1 (w : Word) : (latchCommand w s).stage1 = s.stage1 := rfl
@[simp] theorem latchCommand_stage2 (w : Word) : (latchCommand w s).stage2 = s.stage2 := rfl
@[simp] theorem latchCommand_shift0 (w : Word) : (latchCommand w s).shift0 = s.shift0 := rfl
@[simp] theorem latchCommand_shift1 (w : Word) : (latchCommand w s).shift1 = s.shift1 := rfl
@[simp] theorem latchCommand_shift2 (w : Word) : (latchCommand w s).shift2 = s.shift2 := rfl
@[simp] theorem latchCommand_mem (w : Word) : (latchCommand w s).mem = s.mem := rfl
@[simp] theorem latchCommand_cfg (w : Word) : (latchCommand w s).cfg = s.cfg := rfl
@[simp] theorem latchCommand_rx (w : Word) : (latchCommand w s).rx = s.rx := rfl
@[simp] theorem latchCommand_trk (w : Word) : (latchCommand w s).trk = s.trk := rfl
@[simp] theorem latchCommand_man (w : Word) : (latchCommand w s).man = s.man := rfl
@[simp] theorem latchCommand_crc (w : Word) : (latchCommand w s).crc = s.crc := rfl
@[simp] theorem latchCommand_cur (w : Word) : (latchCommand w s).cur = s.cur := rfl
@[simp] theorem latchCommand_msg (w : Word) : (latchCommand w s).msg = s.msg := rfl
@[simp] theorem latchCommand_counters (w : Word) : (latchCommand w s).counters = s.counters := rfl
@[simp] theorem latchCommand_busOut (w : Word) : (latchCommand w s).busOut = s.busOut := rfl
@[simp] theorem latchCommand_msgOut (w : Word) : (latchCommand w s).msgOut = s.msgOut := rfl
@[simp] theorem latchCommand_bus (w : Word) : (latchCommand w s).bus = s.bus := rfl
@[simp] theorem latchCommand_samples (w : Word) : (latchCommand w s).samples = s.samples := rfl
@[simp] theorem latchCommand_turns (w : Word) : (latchCommand w s).turns = s.turns := rfl
@[simp] theorem latchCommand_epoch (w : Word) : (latchCommand w s).epoch = s.epoch := rfl
@[simp] theorem latchCommand_configCount (w : Word) : (latchCommand w s).configCount = s.configCount := rfl

@[simp] theorem respond_ctrl (r : BusResp) : (respond r s).ctrl = s.ctrl := rfl
@[simp] theorem respond_evt (r : BusResp) : (respond r s).evt = s.evt := rfl
@[simp] theorem respond_cmd (r : BusResp) : (respond r s).cmd = s.cmd := rfl
@[simp] theorem respond_stage0 (r : BusResp) : (respond r s).stage0 = s.stage0 := rfl
@[simp] theorem respond_stage1 (r : BusResp) : (respond r s).stage1 = s.stage1 := rfl
@[simp] theorem respond_stage2 (r : BusResp) : (respond r s).stage2 = s.stage2 := rfl
@[simp] theorem respond_shift0 (r : BusResp) : (respond r s).shift0 = s.shift0 := rfl
@[simp] theorem respond_shift1 (r : BusResp) : (respond r s).shift1 = s.shift1 := rfl
@[simp] theorem respond_shift2 (r : BusResp) : (respond r s).shift2 = s.shift2 := rfl
@[simp] theorem respond_mem (r : BusResp) : (respond r s).mem = s.mem := rfl
@[simp] theorem respond_cfg (r : BusResp) : (respond r s).cfg = s.cfg := rfl
@[simp] theorem respond_rx (r : BusResp) : (respond r s).rx = s.rx := rfl
@[simp] theorem respond_trk (r : BusResp) : (respond r s).trk = s.trk := rfl
@[simp] theorem respond_man (r : BusResp) : (respond r s).man = s.man := rfl
@[simp] theorem respond_crc (r : BusResp) : (respond r s).crc = s.crc := rfl
@[simp] theorem respond_cur (r : BusResp) : (respond r s).cur = s.cur := rfl
@[simp] theorem respond_msg (r : BusResp) : (respond r s).msg = s.msg := rfl
@[simp] theorem respond_counters (r : BusResp) : (respond r s).counters = s.counters := rfl
@[simp] theorem respond_busOut (r : BusResp) : (respond r s).busOut = some r := rfl
@[simp] theorem respond_msgOut (r : BusResp) : (respond r s).msgOut = s.msgOut := rfl
@[simp] theorem respond_bus (r : BusResp) : (respond r s).bus = s.bus := rfl
@[simp] theorem respond_samples (r : BusResp) : (respond r s).samples = s.samples := rfl
@[simp] theorem respond_turns (r : BusResp) : (respond r s).turns = s.turns := rfl
@[simp] theorem respond_epoch (r : BusResp) : (respond r s).epoch = s.epoch := rfl
@[simp] theorem respond_configCount (r : BusResp) : (respond r s).configCount = s.configCount := rfl

@[simp] theorem quiet_ctrl : (quiet s).ctrl = s.ctrl := rfl
@[simp] theorem quiet_evt : (quiet s).evt = s.evt := rfl
@[simp] theorem quiet_cmd : (quiet s).cmd = s.cmd := rfl
@[simp] theorem quiet_stage0 : (quiet s).stage0 = s.stage0 := rfl
@[simp] theorem quiet_stage1 : (quiet s).stage1 = s.stage1 := rfl
@[simp] theorem quiet_stage2 : (quiet s).stage2 = s.stage2 := rfl
@[simp] theorem quiet_shift0 : (quiet s).shift0 = s.shift0 := rfl
@[simp] theorem quiet_shift1 : (quiet s).shift1 = s.shift1 := rfl
@[simp] theorem quiet_shift2 : (quiet s).shift2 = s.shift2 := rfl
@[simp] theorem quiet_mem : (quiet s).mem = s.mem := rfl
@[simp] theorem quiet_cfg : (quiet s).cfg = s.cfg := rfl
@[simp] theorem quiet_rx : (quiet s).rx = s.rx := rfl
@[simp] theorem quiet_trk : (quiet s).trk = s.trk := rfl
@[simp] theorem quiet_man : (quiet s).man = s.man := rfl
@[simp] theorem quiet_crc : (quiet s).crc = s.crc := rfl
@[simp] theorem quiet_cur : (quiet s).cur = s.cur := rfl
@[simp] theorem quiet_msg : (quiet s).msg = s.msg := rfl
@[simp] theorem quiet_counters : (quiet s).counters = s.counters := rfl
@[simp] theorem quiet_busOut : (quiet s).busOut = none := rfl
@[simp] theorem quiet_msgOut : (quiet s).msgOut = none := rfl
@[simp] theorem quiet_bus : (quiet s).bus = s.bus := rfl
@[simp] theorem quiet_samples : (quiet s).samples = s.samples := rfl
@[simp] theorem quiet_turns : (quiet s).turns = s.turns := rfl
@[simp] theorem quiet_epoch : (quiet s).epoch = s.epoch := rfl
@[simp] theorem quiet_configCount : (quiet s).configCount = s.configCount := rfl

@[simp] theorem endFrame_ctrl : (endFrame s).ctrl = s.ctrl := rfl
@[simp] theorem endFrame_evt : (endFrame s).evt = s.evt := rfl
@[simp] theorem endFrame_cmd : (endFrame s).cmd = s.cmd := rfl
@[simp] theorem endFrame_stage0 : (endFrame s).stage0 = s.stage0 := rfl
@[simp] theorem endFrame_stage1 : (endFrame s).stage1 = s.stage1 := rfl
@[simp] theorem endFrame_stage2 : (endFrame s).stage2 = s.stage2 := rfl
@[simp] theorem endFrame_shift0 : (endFrame s).shift0 = s.shift0 := rfl
@[simp] theorem endFrame_shift1 : (endFrame s).shift1 = s.shift1 := rfl
@[simp] theorem endFrame_shift2 : (endFrame s).shift2 = s.shift2 := rfl
@[simp] theorem endFrame_mem : (endFrame s).mem = s.mem := rfl
@[simp] theorem endFrame_cfg : (endFrame s).cfg = s.cfg := rfl
@[simp] theorem endFrame_rx :
    (endFrame s).rx = { s.rx with state := stSync, planIdx := 0, syncShift := 0, msgActive := false } := rfl
@[simp] theorem endFrame_trk : (endFrame s).trk = s.trk.resetAverage s.cfg := rfl
@[simp] theorem endFrame_man : (endFrame s).man = s.man := rfl
@[simp] theorem endFrame_crc : (endFrame s).crc = s.crc := rfl
@[simp] theorem endFrame_cur : (endFrame s).cur = CurMsg.reset := rfl
@[simp] theorem endFrame_msg : (endFrame s).msg = s.msg := rfl
@[simp] theorem endFrame_counters : (endFrame s).counters = s.counters := rfl
@[simp] theorem endFrame_busOut : (endFrame s).busOut = s.busOut := rfl
@[simp] theorem endFrame_msgOut : (endFrame s).msgOut = s.msgOut := rfl
@[simp] theorem endFrame_bus : (endFrame s).bus = s.bus := rfl
@[simp] theorem endFrame_samples : (endFrame s).samples = s.samples := rfl
@[simp] theorem endFrame_turns : (endFrame s).turns = s.turns := rfl
@[simp] theorem endFrame_epoch : (endFrame s).epoch = s.epoch := rfl
@[simp] theorem endFrame_configCount : (endFrame s).configCount = s.configCount := rfl

@[simp] theorem newMessage_ctrl (v : BitVec 2) (c : BitVec 4) : (newMessage v c s).ctrl = s.ctrl := rfl
@[simp] theorem newMessage_evt (v : BitVec 2) (c : BitVec 4) : (newMessage v c s).evt = s.evt := rfl
@[simp] theorem newMessage_cmd (v : BitVec 2) (c : BitVec 4) : (newMessage v c s).cmd = s.cmd := rfl
@[simp] theorem newMessage_stage0 (v : BitVec 2) (c : BitVec 4) : (newMessage v c s).stage0 = s.stage0 := rfl
@[simp] theorem newMessage_stage1 (v : BitVec 2) (c : BitVec 4) : (newMessage v c s).stage1 = s.stage1 := rfl
@[simp] theorem newMessage_stage2 (v : BitVec 2) (c : BitVec 4) : (newMessage v c s).stage2 = s.stage2 := rfl
@[simp] theorem newMessage_shift0 (v : BitVec 2) (c : BitVec 4) : (newMessage v c s).shift0 = s.shift0 := rfl
@[simp] theorem newMessage_shift1 (v : BitVec 2) (c : BitVec 4) : (newMessage v c s).shift1 = s.shift1 := rfl
@[simp] theorem newMessage_shift2 (v : BitVec 2) (c : BitVec 4) : (newMessage v c s).shift2 = s.shift2 := rfl
@[simp] theorem newMessage_mem (v : BitVec 2) (c : BitVec 4) : (newMessage v c s).mem = s.mem := rfl
@[simp] theorem newMessage_cfg (v : BitVec 2) (c : BitVec 4) : (newMessage v c s).cfg = s.cfg := rfl
@[simp] theorem newMessage_rx (v : BitVec 2) (c : BitVec 4) :
    (newMessage v c s).rx = { s.rx with msgActive := true } := rfl
@[simp] theorem newMessage_trk (v : BitVec 2) (c : BitVec 4) : (newMessage v c s).trk = s.trk := rfl
@[simp] theorem newMessage_man (v : BitVec 2) (c : BitVec 4) : (newMessage v c s).man = s.man := rfl
@[simp] theorem newMessage_crc (v : BitVec 2) (c : BitVec 4) : (newMessage v c s).crc = s.crc := rfl
@[simp] theorem newMessage_cur (v : BitVec 2) (c : BitVec 4) :
    (newMessage v c s).cur = { vendor := v, channel := c, hdrPresent := false, header := 0, txid := 0, state := 0 } := rfl
@[simp] theorem newMessage_msg (v : BitVec 2) (c : BitVec 4) : (newMessage v c s).msg = s.msg := rfl
@[simp] theorem newMessage_counters (v : BitVec 2) (c : BitVec 4) :
    (newMessage v c s).counters = s.counters := rfl
@[simp] theorem newMessage_busOut (v : BitVec 2) (c : BitVec 4) : (newMessage v c s).busOut = s.busOut := rfl
@[simp] theorem newMessage_msgOut (v : BitVec 2) (c : BitVec 4) : (newMessage v c s).msgOut = s.msgOut := rfl
@[simp] theorem newMessage_bus (v : BitVec 2) (c : BitVec 4) : (newMessage v c s).bus = s.bus := rfl
@[simp] theorem newMessage_samples (v : BitVec 2) (c : BitVec 4) :
    (newMessage v c s).samples = s.samples := rfl
@[simp] theorem newMessage_turns (v : BitVec 2) (c : BitVec 4) : (newMessage v c s).turns = s.turns := rfl
@[simp] theorem newMessage_epoch (v : BitVec 2) (c : BitVec 4) : (newMessage v c s).epoch = s.epoch := rfl
@[simp] theorem newMessage_configCount (v : BitVec 2) (c : BitVec 4) :
    (newMessage v c s).configCount = s.configCount := rfl

@[simp] theorem emitMessage_ctrl : (emitMessage s).ctrl = s.ctrl := rfl
@[simp] theorem emitMessage_evt :
    (emitMessage s).evt = { s.evt with status := s.evt.status ||| eventBit .msg } := rfl
@[simp] theorem emitMessage_cmd : (emitMessage s).cmd = s.cmd := rfl
@[simp] theorem emitMessage_stage0 : (emitMessage s).stage0 = s.stage0 := rfl
@[simp] theorem emitMessage_stage1 : (emitMessage s).stage1 = s.stage1 := rfl
@[simp] theorem emitMessage_stage2 : (emitMessage s).stage2 = s.stage2 := rfl
@[simp] theorem emitMessage_shift0 : (emitMessage s).shift0 = s.shift0 := rfl
@[simp] theorem emitMessage_shift1 : (emitMessage s).shift1 = s.shift1 := rfl
@[simp] theorem emitMessage_shift2 : (emitMessage s).shift2 = s.shift2 := rfl
@[simp] theorem emitMessage_mem : (emitMessage s).mem = s.mem := rfl
@[simp] theorem emitMessage_cfg : (emitMessage s).cfg = s.cfg := rfl
@[simp] theorem emitMessage_rx : (emitMessage s).rx = s.rx := rfl
@[simp] theorem emitMessage_trk : (emitMessage s).trk = s.trk := rfl
@[simp] theorem emitMessage_man : (emitMessage s).man = s.man := rfl
@[simp] theorem emitMessage_crc : (emitMessage s).crc = s.crc := rfl
@[simp] theorem emitMessage_cur : (emitMessage s).cur = s.cur := rfl
@[simp] theorem emitMessage_msg : (emitMessage s).msg = outMsgOf s.cur := rfl
@[simp] theorem emitMessage_counters : (emitMessage s).counters = s.counters.bump .msg := rfl
@[simp] theorem emitMessage_busOut : (emitMessage s).busOut = s.busOut := rfl
@[simp] theorem emitMessage_msgOut : (emitMessage s).msgOut = some (portMsgOf s.cur) := rfl
@[simp] theorem emitMessage_bus : (emitMessage s).bus = s.bus := rfl
@[simp] theorem emitMessage_samples : (emitMessage s).samples = s.samples := rfl
@[simp] theorem emitMessage_turns : (emitMessage s).turns = s.turns := rfl
@[simp] theorem emitMessage_epoch : (emitMessage s).epoch = s.epoch := rfl
@[simp] theorem emitMessage_configCount : (emitMessage s).configCount = s.configCount := rfl

@[simp] theorem crcMismatch_ctrl : (crcMismatch s).ctrl = s.ctrl := rfl
@[simp] theorem crcMismatch_evt :
    (crcMismatch s).evt = { s.evt with status := s.evt.status ||| eventBit .crcErr } := rfl
@[simp] theorem crcMismatch_cmd : (crcMismatch s).cmd = s.cmd := rfl
@[simp] theorem crcMismatch_stage0 : (crcMismatch s).stage0 = s.stage0 := rfl
@[simp] theorem crcMismatch_stage1 : (crcMismatch s).stage1 = s.stage1 := rfl
@[simp] theorem crcMismatch_stage2 : (crcMismatch s).stage2 = s.stage2 := rfl
@[simp] theorem crcMismatch_shift0 : (crcMismatch s).shift0 = s.shift0 := rfl
@[simp] theorem crcMismatch_shift1 : (crcMismatch s).shift1 = s.shift1 := rfl
@[simp] theorem crcMismatch_shift2 : (crcMismatch s).shift2 = s.shift2 := rfl
@[simp] theorem crcMismatch_mem : (crcMismatch s).mem = s.mem := rfl
@[simp] theorem crcMismatch_cfg : (crcMismatch s).cfg = s.cfg := rfl
@[simp] theorem crcMismatch_rx : (crcMismatch s).rx = s.rx := rfl
@[simp] theorem crcMismatch_trk : (crcMismatch s).trk = s.trk := rfl
@[simp] theorem crcMismatch_man : (crcMismatch s).man = s.man := rfl
@[simp] theorem crcMismatch_crc : (crcMismatch s).crc = s.crc := rfl
@[simp] theorem crcMismatch_cur : (crcMismatch s).cur = s.cur := rfl
@[simp] theorem crcMismatch_msg : (crcMismatch s).msg = s.msg := rfl
@[simp] theorem crcMismatch_counters : (crcMismatch s).counters = s.counters.bump .crcErr := rfl
@[simp] theorem crcMismatch_busOut : (crcMismatch s).busOut = s.busOut := rfl
@[simp] theorem crcMismatch_msgOut : (crcMismatch s).msgOut = s.msgOut := rfl
@[simp] theorem crcMismatch_bus : (crcMismatch s).bus = s.bus := rfl
@[simp] theorem crcMismatch_samples : (crcMismatch s).samples = s.samples := rfl
@[simp] theorem crcMismatch_turns : (crcMismatch s).turns = s.turns := rfl
@[simp] theorem crcMismatch_epoch : (crcMismatch s).epoch = s.epoch := rfl
@[simp] theorem crcMismatch_configCount : (crcMismatch s).configCount = s.configCount := rfl

@[simp] theorem advancePlan_ctrl : (advancePlan s).ctrl = s.ctrl := rfl
@[simp] theorem advancePlan_evt : (advancePlan s).evt = s.evt := rfl
@[simp] theorem advancePlan_cmd : (advancePlan s).cmd = s.cmd := rfl
@[simp] theorem advancePlan_stage0 : (advancePlan s).stage0 = s.stage0 := rfl
@[simp] theorem advancePlan_stage1 : (advancePlan s).stage1 = s.stage1 := rfl
@[simp] theorem advancePlan_stage2 : (advancePlan s).stage2 = s.stage2 := rfl
@[simp] theorem advancePlan_shift0 : (advancePlan s).shift0 = s.shift0 := rfl
@[simp] theorem advancePlan_shift1 : (advancePlan s).shift1 = s.shift1 := rfl
@[simp] theorem advancePlan_shift2 : (advancePlan s).shift2 = s.shift2 := rfl
@[simp] theorem advancePlan_mem : (advancePlan s).mem = s.mem := rfl
@[simp] theorem advancePlan_cfg : (advancePlan s).cfg = s.cfg := rfl
@[simp] theorem advancePlan_rx :
    (advancePlan s).rx = { s.rx with planIdx := s.rx.planIdx + 1, state := nextState (s.cfg.vendor s.cur.vendor) (s.rx.planIdx + 1) } := rfl
@[simp] theorem advancePlan_trk : (advancePlan s).trk = s.trk := rfl
@[simp] theorem advancePlan_man : (advancePlan s).man = s.man := rfl
@[simp] theorem advancePlan_crc : (advancePlan s).crc = s.crc := rfl
@[simp] theorem advancePlan_cur : (advancePlan s).cur = s.cur := rfl
@[simp] theorem advancePlan_msg : (advancePlan s).msg = s.msg := rfl
@[simp] theorem advancePlan_counters : (advancePlan s).counters = s.counters := rfl
@[simp] theorem advancePlan_busOut : (advancePlan s).busOut = s.busOut := rfl
@[simp] theorem advancePlan_msgOut : (advancePlan s).msgOut = s.msgOut := rfl
@[simp] theorem advancePlan_bus : (advancePlan s).bus = s.bus := rfl
@[simp] theorem advancePlan_samples : (advancePlan s).samples = s.samples := rfl
@[simp] theorem advancePlan_turns : (advancePlan s).turns = s.turns := rfl
@[simp] theorem advancePlan_epoch : (advancePlan s).epoch = s.epoch := rfl
@[simp] theorem advancePlan_configCount : (advancePlan s).configCount = s.configCount := rfl

@[simp] theorem pushField_ctrl (v : Word) (w : Nat) : (pushField v w s).ctrl = s.ctrl := rfl
@[simp] theorem pushField_evt (v : Word) (w : Nat) : (pushField v w s).evt = s.evt := rfl
@[simp] theorem pushField_cmd (v : Word) (w : Nat) : (pushField v w s).cmd = s.cmd := rfl
@[simp] theorem pushField_stage0 (v : Word) (w : Nat) : (pushField v w s).stage0 = s.stage0 := rfl
@[simp] theorem pushField_stage1 (v : Word) (w : Nat) : (pushField v w s).stage1 = s.stage1 := rfl
@[simp] theorem pushField_stage2 (v : Word) (w : Nat) : (pushField v w s).stage2 = s.stage2 := rfl
@[simp] theorem pushField_shift0 (v : Word) (w : Nat) : (pushField v w s).shift0 = s.shift0 := rfl
@[simp] theorem pushField_shift1 (v : Word) (w : Nat) : (pushField v w s).shift1 = s.shift1 := rfl
@[simp] theorem pushField_shift2 (v : Word) (w : Nat) : (pushField v w s).shift2 = s.shift2 := rfl
@[simp] theorem pushField_mem (v : Word) (w : Nat) : (pushField v w s).mem = s.mem := rfl
@[simp] theorem pushField_cfg (v : Word) (w : Nat) : (pushField v w s).cfg = s.cfg := rfl
@[simp] theorem pushField_rx (v : Word) (w : Nat) : (pushField v w s).rx = s.rx := rfl
@[simp] theorem pushField_trk (v : Word) (w : Nat) : (pushField v w s).trk = s.trk := rfl
@[simp] theorem pushField_man (v : Word) (w : Nat) : (pushField v w s).man = s.man := rfl
@[simp] theorem pushField_crc (v : Word) (w : Nat) : (pushField v w s).crc = s.crc.push v w true := rfl
@[simp] theorem pushField_cur (v : Word) (w : Nat) : (pushField v w s).cur = s.cur := rfl
@[simp] theorem pushField_msg (v : Word) (w : Nat) : (pushField v w s).msg = s.msg := rfl
@[simp] theorem pushField_counters (v : Word) (w : Nat) : (pushField v w s).counters = s.counters := rfl
@[simp] theorem pushField_busOut (v : Word) (w : Nat) : (pushField v w s).busOut = s.busOut := rfl
@[simp] theorem pushField_msgOut (v : Word) (w : Nat) : (pushField v w s).msgOut = s.msgOut := rfl
@[simp] theorem pushField_bus (v : Word) (w : Nat) : (pushField v w s).bus = s.bus := rfl
@[simp] theorem pushField_samples (v : Word) (w : Nat) : (pushField v w s).samples = s.samples := rfl
@[simp] theorem pushField_turns (v : Word) (w : Nat) : (pushField v w s).turns = s.turns := rfl
@[simp] theorem pushField_epoch (v : Word) (w : Nat) : (pushField v w s).epoch = s.epoch := rfl
@[simp] theorem pushField_configCount (v : Word) (w : Nat) :
    (pushField v w s).configCount = s.configCount := rfl

@[simp] theorem resetBlock_ctrl : (resetBlock s).ctrl = State.reset.ctrl := rfl
@[simp] theorem resetBlock_evt : (resetBlock s).evt = State.reset.evt := rfl
@[simp] theorem resetBlock_cmd : (resetBlock s).cmd = State.reset.cmd := rfl
@[simp] theorem resetBlock_stage0 : (resetBlock s).stage0 = State.reset.stage0 := rfl
@[simp] theorem resetBlock_stage1 : (resetBlock s).stage1 = State.reset.stage1 := rfl
@[simp] theorem resetBlock_stage2 : (resetBlock s).stage2 = State.reset.stage2 := rfl
@[simp] theorem resetBlock_shift0 : (resetBlock s).shift0 = State.reset.shift0 := rfl
@[simp] theorem resetBlock_shift1 : (resetBlock s).shift1 = State.reset.shift1 := rfl
@[simp] theorem resetBlock_shift2 : (resetBlock s).shift2 = State.reset.shift2 := rfl
@[simp] theorem resetBlock_mem : (resetBlock s).mem = State.reset.mem := rfl
@[simp] theorem resetBlock_cfg : (resetBlock s).cfg = State.reset.cfg := rfl
@[simp] theorem resetBlock_rx : (resetBlock s).rx = State.reset.rx := rfl
@[simp] theorem resetBlock_trk : (resetBlock s).trk = State.reset.trk := rfl
@[simp] theorem resetBlock_man : (resetBlock s).man = State.reset.man := rfl
@[simp] theorem resetBlock_crc : (resetBlock s).crc = State.reset.crc := rfl
@[simp] theorem resetBlock_cur : (resetBlock s).cur = State.reset.cur := rfl
@[simp] theorem resetBlock_msg : (resetBlock s).msg = State.reset.msg := rfl
@[simp] theorem resetBlock_counters : (resetBlock s).counters = State.reset.counters := rfl
@[simp] theorem resetBlock_busOut : (resetBlock s).busOut = State.reset.busOut := rfl
@[simp] theorem resetBlock_msgOut : (resetBlock s).msgOut = State.reset.msgOut := rfl
@[simp] theorem resetBlock_bus : (resetBlock s).bus = s.bus := rfl
@[simp] theorem resetBlock_samples : (resetBlock s).samples = s.samples := rfl
@[simp] theorem resetBlock_turns : (resetBlock s).turns = s.turns := rfl
@[simp] theorem resetBlock_epoch : (resetBlock s).epoch = s.epoch + 1 := rfl
@[simp] theorem resetBlock_configCount : (resetBlock s).configCount = s.configCount := rfl

end

section
variable (s : State) (sid : StageId) (r : StageRegs)

@[simp] theorem setStage_ctrl : (s.setStage sid r).ctrl = s.ctrl := by cases sid <;> rfl
@[simp] theorem setStage_evt : (s.setStage sid r).evt = s.evt := by cases sid <;> rfl
@[simp] theorem setStage_cmd : (s.setStage sid r).cmd = s.cmd := by cases sid <;> rfl
@[simp] theorem setStage_shift0 : (s.setStage sid r).shift0 = s.shift0 := by cases sid <;> rfl
@[simp] theorem setStage_shift1 : (s.setStage sid r).shift1 = s.shift1 := by cases sid <;> rfl
@[simp] theorem setStage_shift2 : (s.setStage sid r).shift2 = s.shift2 := by cases sid <;> rfl
@[simp] theorem setStage_mem : (s.setStage sid r).mem = s.mem := by cases sid <;> rfl
@[simp] theorem setStage_cfg : (s.setStage sid r).cfg = s.cfg := by cases sid <;> rfl
@[simp] theorem setStage_rx : (s.setStage sid r).rx = s.rx := by cases sid <;> rfl
@[simp] theorem setStage_trk : (s.setStage sid r).trk = s.trk := by cases sid <;> rfl
@[simp] theorem setStage_man : (s.setStage sid r).man = s.man := by cases sid <;> rfl
@[simp] theorem setStage_crc : (s.setStage sid r).crc = s.crc := by cases sid <;> rfl
@[simp] theorem setStage_cur : (s.setStage sid r).cur = s.cur := by cases sid <;> rfl
@[simp] theorem setStage_msg : (s.setStage sid r).msg = s.msg := by cases sid <;> rfl
@[simp] theorem setStage_counters : (s.setStage sid r).counters = s.counters := by cases sid <;> rfl
@[simp] theorem setStage_busOut : (s.setStage sid r).busOut = s.busOut := by cases sid <;> rfl
@[simp] theorem setStage_msgOut : (s.setStage sid r).msgOut = s.msgOut := by cases sid <;> rfl
@[simp] theorem setStage_bus : (s.setStage sid r).bus = s.bus := by cases sid <;> rfl
@[simp] theorem setStage_samples : (s.setStage sid r).samples = s.samples := by cases sid <;> rfl
@[simp] theorem setStage_turns : (s.setStage sid r).turns = s.turns := by cases sid <;> rfl
@[simp] theorem setStage_epoch : (s.setStage sid r).epoch = s.epoch := by cases sid <;> rfl
@[simp] theorem setStage_configCount : (s.setStage sid r).configCount = s.configCount := by cases sid <;> rfl

@[simp] theorem stage_s0 : s.stage .s0 = s.stage0 := rfl
@[simp] theorem stage_s1 : s.stage .s1 = s.stage1 := rfl
@[simp] theorem stage_s2 : s.stage .s2 = s.stage2 := rfl

@[simp] theorem stage_setStage_same : (s.setStage sid r).stage sid = r := by cases sid <;> rfl

theorem stage_setStage_other (k : StageId) (h : k ≠ sid) : (s.setStage sid r).stage k = s.stage k := by
  cases sid <;> cases k <;> first | rfl | exact absurd rfl h

end

end Sys2Proof.Machine
end

