-- ==== Sys2Proof/Laws/Filter.lean ====
section
/-! SUPPORT. What the oscillator and the filter can do, each said once (40_filter.md R172, R181, R184). -/

namespace Sys2Proof.Machine

/-- The stage registers a FilterCompute may move: the phase index and the decimation counter (R181). -/
def StageKeeps (r t : StageRegs) : Prop := t = { r with oscIdx := t.oscIdx, dcnt := t.dcnt }

theorem StageKeeps.refl (r : StageRegs) : StageKeeps r r := rfl

theorem oscAdvance_keeps (r : StageRegs) : StageKeeps r (oscAdvance r) := rfl

/-- OscNext answers the entry at the phase index, and moves the index alone (R172). -/
theorem oscNext_ok {mem : Memory} {sid : StageId} {r t : StageRegs} {w : F32 × F32}
    (h : oscNext mem sid r = .ok (w, t)) : oscEntry mem sid r.oscIdx.toNat = .ok w ∧ t = oscAdvance r := by
  unfold oscNext at h
  split at h
  · cases h
  · rename_i e
    cases h
    exact ⟨e, rfl⟩

/-- OscNext stops only where its entry does. -/
theorem oscNext_error {mem : Memory} {sid : StageId} {r : StageRegs} {f : Fault}
    (h : oscNext mem sid r = .error f) : oscEntry mem sid r.oscIdx.toNat = .error f := by
  unfold oscNext at h
  split at h
  · rename_i e
    cases h
    exact e
  · cases h

/-- What a table entry the datapath cannot read has to do with memory (10_state.md R60). -/
theorem oscEntry_error {mem : Memory} {sid : StageId} {k : Nat} {f : Fault}
    (h : oscEntry mem sid k = .error f) :
    ∃ l, f = .unwrittenOsc sid k l ∧ mem.readWord (oscAddr sid k l) = none ∧ (l = .first ∨ sid = .s0) := by
  unfold oscEntry at h
  split at h
  · rename_i e
    cases h
    exact ⟨.first, rfl, e, .inl rfl⟩
  · cases sid <;> simp only at h
    · split at h
      · rename_i e
        cases h
        exact ⟨.second, rfl, e, .inr rfl⟩
      · cases h
    · cases h
    · cases h

theorem oscEntry_first {mem : Memory} {sid : StageId} {k : Nat} {w : F32 × F32}
    (h : oscEntry mem sid k = .ok w) : mem.readWord (oscAddr sid k .first) = some w.1 := by
  unfold oscEntry at h
  split at h
  · cases h
  · rename_i e
    rw [e]
    cases sid <;> simp only at h
    · split at h <;> cases h
      rfl
    · cases h
      rfl
    · cases h
      rfl

/-- What the translation step can do (R181, R182). -/
theorem translate_cases {α : Type} (ops : SampleOps α) (mem : Memory) (sid : StageId) (r : StageRegs) (x : α) :
    (r.transEn = false ∧ translate ops mem sid r x = .ok (x, r)) ∨
      (∃ f, r.transEn = true ∧ oscEntry mem sid r.oscIdx.toNat = .error f ∧
        translate ops mem sid r x = .error f) ∨
      (∃ w, r.transEn = true ∧ oscEntry mem sid r.oscIdx.toNat = .ok w ∧
        translate ops mem sid r x = .ok (ops.mix x w.1 w.2, oscAdvance r)) := by
  unfold translate
  cases ht : r.transEn
  · exact .inl ⟨rfl, rfl⟩
  · refine .inr ?_
    simp only [if_true, oscNext]
    cases he : oscEntry mem sid r.oscIdx.toNat with
    | error f => exact .inl ⟨f, trivial, rfl, rfl⟩
    | ok w => exact .inr ⟨w, trivial, rfl, rfl⟩

theorem translate_keeps {α : Type} {ops : SampleOps α} {mem : Memory} {sid : StageId} {r t : StageRegs}
    {x y : α} (h : translate ops mem sid r x = .ok (y, t)) : StageKeeps r t ∧ t.dcnt = r.dcnt := by
  rcases translate_cases ops mem sid r x with ⟨-, e⟩ | ⟨f, -, -, e⟩ | ⟨w, -, -, e⟩ <;> rw [e] at h <;> cases h
  · exact ⟨rfl, rfl⟩
  · exact ⟨rfl, rfl⟩

/-- A tap product stops only where its coefficient is not written (10_state.md R60). -/
theorem tapProduct_error {α : Type} {ops : SampleOps α} {draw : Nat → α} {mem : Memory} {sid : StageId}
    {sh : List α} {t : Nat} {f : Fault} (h : tapProduct ops draw mem sid sh t = .error f) :
    f = .unwrittenCoef sid t ∧ mem.readWord (coefAddr sid t) = none := by
  unfold tapProduct at h
  split at h
  · rename_i e
    cases h
    exact ⟨rfl, e⟩
  · cases h

theorem accumulateTaps_error {α : Type} {ops : SampleOps α} {draw : Nat → α} {mem : Memory} {sid : StageId}
    {sh : List α} {f : Fault} (k t : Nat) (acc : α)
    (h : accumulateTaps ops draw mem sid sh k t acc = .error f) :
    ∃ u, t ≤ u ∧ u < t + k ∧ f = .unwrittenCoef sid u ∧ mem.readWord (coefAddr sid u) = none := by
  induction k generalizing t acc with
  | zero => cases h
  | succ k ih =>
    unfold accumulateTaps at h
    split at h
    · rename_i g e
      cases h
      exact ⟨t, le_rfl, by omega, tapProduct_error e⟩
    · obtain ⟨u, h1, h2, h3⟩ := ih _ _ h
      exact ⟨u, by omega, by omega, h3⟩

/-- An inner product over `n` taps stops only at one of them that is not written. -/
theorem innerProduct_error {α : Type} {ops : SampleOps α} {draw : Nat → α} {mem : Memory} {sid : StageId}
    {n : Nat} {sh : List α} {f : Fault} (h : innerProduct ops draw mem sid n sh = .error f) :
    ∃ u, u < max n 1 ∧ f = .unwrittenCoef sid u ∧ mem.readWord (coefAddr sid u) = none := by
  unfold innerProduct at h
  split at h
  · rename_i g e
    cases h
    exact ⟨0, by omega, tapProduct_error e⟩
  · obtain ⟨u, h1, h2, h3⟩ := accumulateTaps_error _ _ _ h
    exact ⟨u, by omega, h3⟩

/-- Everything a FilterCompute that answers can do (R181). -/
theorem filterCompute_ok {α : Type} {ops : SampleOps α} {draw : Nat → α} {mem : Memory} {sid : StageId}
    {r : StageRegs} {sh : List α} {x : α} {res : FilterResult α}
    (h : filterCompute ops draw mem sid r sh x = .ok res) :
    ∃ y t, translate ops mem sid r x = .ok (y, t) ∧ res.shift = shiftIn draw (tapCount r) sh y ∧
      ((t.dcnt + 1 = t.decim ∧ res.regs = { t with dcnt := 0 } ∧
          ∃ v, res.out = some v ∧ innerProduct ops draw mem sid (tapCount r) res.shift = .ok v) ∨
        (t.dcnt + 1 ≠ t.decim ∧ res.regs = { t with dcnt := t.dcnt + 1 } ∧ res.out = none)) := by
  unfold filterCompute at h
  split at h
  · cases h
  · rename_i y t e
    refine ⟨y, t, e, ?_⟩
    simp only at h
    split at h
    · rename_i hd
      split at h
      · cases h
      · rename_i v ev
        cases h
        exact ⟨rfl, .inl ⟨hd, rfl, v, rfl, ev⟩⟩
    · rename_i hd
      cases h
      exact ⟨rfl, .inr ⟨hd, rfl, rfl⟩⟩

theorem filterCompute_keeps {α : Type} {ops : SampleOps α} {draw : Nat → α} {mem : Memory} {sid : StageId}
    {r : StageRegs} {sh : List α} {x : α} {res : FilterResult α}
    (h : filterCompute ops draw mem sid r sh x = .ok res) : StageKeeps r res.regs := by
  obtain ⟨y, t, ht, -, ⟨-, hr, -⟩ | ⟨-, hr, -⟩⟩ := filterCompute_ok h <;>
  · have k := (translate_keeps ht).1
    unfold StageKeeps at k ⊢
    rw [hr, k]

/-- The words whose absence stops a FilterCompute: a coefficient below NTAPS, or with translation a lane of
the entry at the phase index (10_state.md R60). -/
theorem filterCompute_error {α : Type} {ops : SampleOps α} {draw : Nat → α} {mem : Memory} {sid : StageId}
    {r : StageRegs} {sh : List α} {x : α} {f : Fault}
    (h : filterCompute ops draw mem sid r sh x = .error f) :
    (∃ t, t < tapCount r ∧ f = .unwrittenCoef sid t ∧ mem.readWord (coefAddr sid t) = none) ∨
      (∃ l, r.transEn = true ∧ f = .unwrittenOsc sid r.oscIdx.toNat l ∧
        mem.readWord (oscAddr sid r.oscIdx.toNat l) = none ∧ (l = .first ∨ sid = .s0)) := by
  unfold filterCompute at h
  split at h
  · rename_i g e
    cases h
    rcases translate_cases ops mem sid r x with ⟨-, e'⟩ | ⟨f', ht, ho, e'⟩ | ⟨w, -, -, e'⟩ <;>
      rw [e'] at e <;> cases e
    obtain ⟨l, h1, h2, h3⟩ := oscEntry_error ho
    exact .inr ⟨l, ht, h1, h2, h3⟩
  · simp only at h
    split at h
    · split at h
      · rename_i g e
        cases h
        obtain ⟨u, h1, h2⟩ := innerProduct_error e
        exact .inl ⟨u, by simpa [tapCount] using h1, h2⟩
      · cases h
    · cases h

/-- With at least `n` entries written, the shift drops the oldest of them: the entries at and beyond `n`
stay (R181). -/
theorem shiftIn_of_le {α : Type} (draw : Nat → α) {n : Nat} {sh : List α} (x : α) (hn : n ≤ sh.length) :
    shiftIn draw n sh x = x :: (sh.take (n - 1) ++ sh.drop n) := by
  have h : (List.range (n - 1)).map (shiftEntry draw sh) = sh.take (n - 1) := by
    apply List.ext_getElem
    · simp
      omega
    · intro i h1 h2
      simp at h1 h2
      simp [shiftEntry, List.getD, List.getElem?_eq_getElem (show i < sh.length by omega)]
  rw [shiftIn, h]

theorem shiftIn_length {α : Type} (draw : Nat → α) {n : Nat} (sh : List α) (x : α) (h : 1 ≤ n) :
    (shiftIn draw n sh x).length = max n sh.length := by
  simp [shiftIn]
  omega

end Sys2Proof.Machine
end

