-- ==== Sys2Proof/Laws/Float.lean ====
section
/-! SUPPORT. The fields of a packed binary32 pattern, and which patterns are NaNs (00_scope.md R16). -/

namespace Sys2Proof.Machine

theorem packSign_toNat (neg : Bool) {m : Nat} (h : m < 2 ^ 31) :
    (packSign neg m).toNat = (if neg then 2 ^ 31 else 0) + m := by
  have hm : (BitVec.ofNat 32 m).toNat = m := by simp; omega
  rw [packSign, BitVec.toNat_or, hm]
  cases neg
  · simp [bitAt, fieldAt]
  · have := Nat.two_pow_add_eq_or_of_lt h 1
    simpa [bitAt, fieldAt] using this.symm

theorem expField_eq (a : F32) : expField a = a.toNat / 2 ^ 23 % 2 ^ 8 := by
  simp [expField, Nat.shiftRight_eq_div_pow]

theorem fracField_eq (a : F32) : fracField a = a.toNat % 2 ^ 23 := by
  simp [fracField]

theorem signBit_eq (a : F32) : signBit a = decide (2 ^ 31 ≤ a.toNat) := by
  rw [signBit, BitVec.getLsbD, Nat.testBit_eq_decide_div_mod_eq]
  have := a.isLt
  congr 1
  apply propext
  omega

@[simp] theorem signBit_packSign (neg : Bool) {m : Nat} (h : m < 2 ^ 31) : signBit (packSign neg m) = neg := by
  rw [signBit_eq, packSign_toNat neg h]
  cases neg
  · simp
    omega
  · simp

@[simp] theorem signBit_infinity (neg : Bool) : signBit (infinity neg) = neg :=
  signBit_packSign neg (by norm_num)

/-- A NaN result is a NaN, whatever its free bits are (R16). -/
@[simp] theorem isNaN_mkNaN (bits : BitVec 24) : isNaN (mkNaN bits) = true := by
  have hp : ∃ p, 0 < p ∧ p < 2 ^ 23 ∧ mkNaN bits = packSign (bits.getLsbD 23) (0x7F800000 + p) := by
    unfold mkNaN
    simp only
    split_ifs with h
    · exact ⟨_, by norm_num, by norm_num, rfl⟩
    · exact ⟨bits.toNat % 2 ^ 23, by omega, Nat.mod_lt _ (by norm_num), rfl⟩
  obtain ⟨p, h0, h1, e⟩ := hp
  have ht := packSign_toNat (bits.getLsbD 23) (show 0x7F800000 + p < 2 ^ 31 by omega)
  simp only [isNaN, expField_eq, fracField_eq, e, ht, Bool.and_eq_true, beq_iff_eq, bne_iff_ne]
  constructor <;> split_ifs <;> omega

theorem classify_eq_nan_iff (a : F32) : classify a = .nan ↔ isNaN a = true := by
  unfold classify isNaN
  split_ifs <;> simp_all

/-- The sign of a rounded value is the sign asked for. -/
@[simp] theorem signBit_roundPack (neg : Bool) (m : Nat) (e : Int) : signBit (roundPack neg m e) = neg := by
  unfold roundPack
  split_ifs with h0
  · exact signBit_packSign neg (by norm_num)
  · simp only
    split_ifs <;> first | exact signBit_infinity neg | exact signBit_packSign neg (by omega)

theorem isNaN_orNaN_none (op : Config.FloatOp) (a b : F32) : isNaN (orNaN op a b none) = true :=
  isNaN_mkNaN _

/-- A sum with a NaN operand is a NaN. -/
theorem addCore_of_nan {a b : F32} (h : isNaN a = true ∨ isNaN b = true) : addCore a b = none := by
  rw [← classify_eq_nan_iff, ← classify_eq_nan_iff] at h
  unfold addCore
  rcases h with h | h <;> rw [h]
  cases classify a <;> rfl

theorem mulCore_of_nan {a b : F32} (h : isNaN a = true ∨ isNaN b = true) : mulCore a b = none := by
  rw [← classify_eq_nan_iff, ← classify_eq_nan_iff] at h
  unfold mulCore
  rcases h with h | h <;> rw [h]
  cases classify a <;> rfl

theorem sqrtCore_of_nan {a : F32} (h : isNaN a = true) : sqrtCore a = none := by
  rw [← classify_eq_nan_iff] at h
  unfold sqrtCore
  rw [h]

end Sys2Proof.Machine
end

