-- ==== Sys2Proof/Laws/Tracker.lean ====
section
/-! SUPPORT. What the tracker's operations do to each slot, and the symbol count's range (41_tracker.md R222
to R229). -/

namespace Sys2Proof.Machine

theorem Tracker.width_le (t : Tracker) : t.width ≤ 31 := Nat.le_of_lt_succ t.window.isLt

theorem Tracker.slot_of_ge (t : Tracker) {i : Nat} (h : 31 ≤ i) : t.slot i = 0 := by
  simp [Tracker.slot, Vector.getD, Nat.not_lt.2 h]

/-- A slot after a store to slot `k` of the vector. -/
theorem getD_setIfInBounds (v : Vector (BitVec 16) 31) (k i : Nat) (x : BitVec 16) :
    (v.setIfInBounds k x).getD i 0 = if i = k ∧ k < 31 then x else v.getD i 0 := by
  by_cases hk : k < 31 <;> by_cases hi : i = k
  · subst hi; simp [Vector.getD, hk]
  · simp only [Vector.getD, hi, false_and, if_false, Vector.toArray_setIfInBounds]
    simp [Array.getElem?_setIfInBounds_ne (Ne.symm hi)]
  · subst hi; simp [Vector.getD, hk]
  · simp only [Vector.getD, hi, false_and, if_false, Vector.toArray_setIfInBounds]
    simp [Array.getElem?_setIfInBounds_ne (Ne.symm hi)]

theorem Tracker.extend_slot (t : Tracker) (i : Nat) :
    t.extend.slot i =
      if i = t.cur.toNat ∧ t.cur.toNat < 31 then BitVec.ofNat 16 (min ((t.slot t.cur.toNat).toNat + 1) 65535)
      else t.slot i := getD_setIfInBounds _ _ _ _

theorem Tracker.startSymbol_slot (t : Tracker) (i : Nat) :
    t.startSymbol.slot i =
      if i = (t.cur.toNat + 1) % t.width ∧ (t.cur.toNat + 1) % t.width < 31 then 1 else t.slot i :=
  getD_setIfInBounds _ _ _ _

@[simp] theorem Tracker.extend_cur (t : Tracker) : t.extend.cur = t.cur := rfl
@[simp] theorem Tracker.extend_width (t : Tracker) : t.extend.width = t.width := rfl
@[simp] theorem Tracker.startSymbol_width (t : Tracker) : t.startSymbol.width = t.width := rfl
@[simp] theorem Tracker.lockAverage_width (t : Tracker) : t.lockAverage.width = t.width := rfl
@[simp] theorem Tracker.lockAverage_cur (t : Tracker) : t.lockAverage.cur = t.cur := rfl
@[simp] theorem Tracker.lockAverage_slot (t : Tracker) (i : Nat) : t.lockAverage.slot i = t.slot i := rfl
@[simp] theorem Tracker.resetAverage_width (c : RxConfig) (t : Tracker) :
    (t.resetAverage c).width = t.width := rfl
@[simp] theorem Tracker.resetAverage_cur (c : RxConfig) (t : Tracker) :
    (t.resetAverage c).cur = t.cur := rfl
@[simp] theorem Tracker.resetAverage_slot (c : RxConfig) (t : Tracker) (i : Nat) :
    (t.resetAverage c).slot i = t.slot i := rfl

/-- StartSymbol keeps the index inside the window (R226, R220). -/
theorem Tracker.startSymbol_cur_lt (t : Tracker) (h : 1 ≤ t.width) :
    t.startSymbol.cur.toNat < t.width := by
  have hm := Nat.mod_lt (t.cur.toNat + 1) h
  have hw := t.width_le
  simp only [Tracker.startSymbol, BitVec.toNat_ofNat]
  exact (Nat.mod_le _ _).trans_lt hm

/-- The symbol count is 0, 1 or 2 (R222). -/
theorem symCount_le_two (c num den : Nat) : symCount c num den ≤ 2 := by
  unfold symCount; split_ifs <;> omega

theorem curCount_le_two (t : Tracker) : t.curCount ≤ 2 := symCount_le_two _ _ _

end Sys2Proof.Machine
end

