-- ==== Sys2Proof/Laws/Receiver.lean ====
section
/-! SUPPORT. What the receiver can change: the lemma of each shared operation says once everything it can
do, and the frame of a receiver step follows. -/

namespace Sys2Proof.Machine

/-- `t` differs from `s` at most in what the receiver owns: its state machine, the tracker, the decoder,
the CRC engine, the messages, and with them the events, the counters and the fatal record. -/
def ReceiverFrame (s t : State) : Prop :=
  t = { s with
    ctrl := t.ctrl, evt := t.evt, rx := t.rx, trk := t.trk, man := t.man, crc := t.crc, cur := t.cur
    msg := t.msg, counters := t.counters, msgOut := t.msgOut }

theorem ReceiverFrame.refl (s : State) : ReceiverFrame s s := rfl

theorem ReceiverFrame.trans {s t u : State} (h : ReceiverFrame s t) (k : ReceiverFrame t u) :
    ReceiverFrame s u := by
  unfold ReceiverFrame at *
  rw [k]
  rw [h]

/-- What a completed field does (44_receiver.md R304 to R310), by state. -/
theorem completeField_cases (v : Word) (w : Nat) (s : State) :
    (s.rx.state = stChannel ∧ completeField v w s = completeChannel v s) ∨
      (s.rx.state = stHeader ∧ completeField v w s = completeHeader v w s) ∨
      (s.rx.state = stTxid ∧ completeField v w s = completeTxid v w s) ∨
      (s.rx.state = stSensor ∧ completeField v w s = completeSensor v w s) ∨
      (s.rx.state ≠ stChannel ∧ s.rx.state ≠ stHeader ∧ s.rx.state ≠ stTxid ∧ s.rx.state ≠ stSensor ∧
        completeField v w s = completeCrc v s) := by
  unfold completeField
  split_ifs <;> simp_all

/-- What a field-arm step does (44_receiver.md R302). -/
theorem fieldArm_cases (b : Level) (s : State) :
    ((s.man.add b).2 = .invalid ∧
        fieldArm b s = raise .manErr (count .manErr { s with man := (s.man.add b).1 })) ∨
      ((s.man.add b).2 ≠ .invalid ∧ (s.man.add b).1.cnt.toNat < fieldWidth s ∧
        fieldArm b s = { s with man := (s.man.add b).1 }) ∨
      ((s.man.add b).2 ≠ .invalid ∧ fieldWidth s ≤ (s.man.add b).1.cnt.toNat ∧
        fieldArm b s =
          completeField (BitVec.ofNat 32 ((s.man.add b).1.acc.toNat % 2 ^ fieldWidth s)) (fieldWidth s)
            { s with man := (s.man.add b).1.pop }) := by
  have hw : fieldWidth { s with man := (s.man.add b).1 } = fieldWidth s := rfl
  unfold fieldArm
  simp only [hw]
  split_ifs with h1 h2
  · exact .inl ⟨h1, rfl⟩
  · exact .inr (.inl ⟨h1, h2, rfl⟩)
  · exact .inr (.inr ⟨h1, by omega, rfl⟩)

/-- What a SYNC-arm step does (44_receiver.md R301). -/
theorem syncArm_cases (b : Level) (s : State) :
    syncArm b s =
        { s with rx := { s.rx with
            syncShift := (s.rx.syncShift <<< 1 ||| bitAt 0 b) &&&
              BitVec.ofNat 32 (mask s.cfg.syncWidth.toNat) } } ∨
      syncArm b s =
        raise .sync (count .sync
          { s with
            rx := { s.rx with
              syncShift := (s.rx.syncShift <<< 1 ||| bitAt 0 b) &&&
                BitVec.ofNat 32 (mask s.cfg.syncWidth.toNat)
              state := stChannel }
            trk := s.trk.lockAverage }) := by
  unfold syncArm
  simp only
  split_ifs
  · exact .inr rfl
  · exact .inl rfl

/-- What a state-machine step does (44_receiver.md R301, R302, R312). -/
theorem smStep_cases (b : Level) (s : State) :
    (s.rx.state = stSync ∧ smStep b s = syncArm b s) ∨
      (1 ≤ s.rx.state.toNat ∧ s.rx.state.toNat ≤ 5 ∧ smStep b s = fieldArm b s) ∨
      (6 ≤ s.rx.state.toNat ∧ smStep b s = fatalAction s) := by
  have h0 : s.rx.state = stSync ↔ s.rx.state.toNat = 0 := by
    rw [← BitVec.toNat_inj]; simp [stSync]
  have h5 : stCrc.toNat = 5 := rfl
  unfold smStep
  split_ifs with h1 h2
  · exact .inl ⟨h1, rfl⟩
  · have : s.rx.state.toNat ≠ 0 := fun h => h1 (h0.2 h)
    rw [h5] at h2
    exact .inr (.inl ⟨by omega, h2, rfl⟩)
  · rw [h5] at h2
    exact .inr (.inr ⟨by omega, rfl⟩)

/-- What the receiver never moves inside the structures it shares with the rest of the block: CONFIGURED, the
enables, and the counters of samples and levels. RUN can only fall (60_exceptions.md R376), and event bits
are only set (R380). -/
structure ReceiverKeeps (s t : State) : Prop where
  configured : t.ctrl.configured = s.ctrl.configured
  enable : t.evt.enable = s.evt.enable
  sample : t.counters.sample = s.counters.sample
  level : t.counters.level = s.counters.level
  run : s.ctrl.run = false → t.ctrl.run = false
  events : ∃ e, t.evt.status = s.evt.status ||| e

theorem ReceiverKeeps.refl (s : State) : ReceiverKeeps s s :=
  ⟨rfl, rfl, rfl, rfl, id, 0, BitVec.or_zero.symm⟩

/-- A change that raises one event and moves nothing else of what the receiver keeps. -/
theorem ReceiverKeeps.of_raise {s t : State} (e : BitVec 8) (hc : t.ctrl = s.ctrl)
    (he : t.evt = { s.evt with status := s.evt.status ||| e })
    (hs : t.counters.sample = s.counters.sample) (hl : t.counters.level = s.counters.level) :
    ReceiverKeeps s t :=
  ⟨by rw [hc], by rw [he], hs, hl, by rw [hc]; exact id, e, by rw [he]⟩

/-- A change that raises nothing. -/
theorem ReceiverKeeps.of_quiet {s t : State} (hc : t.ctrl = s.ctrl) (he : t.evt = s.evt)
    (hs : t.counters.sample = s.counters.sample) (hl : t.counters.level = s.counters.level) :
    ReceiverKeeps s t :=
  ⟨by rw [hc], by rw [he], hs, hl, by rw [hc]; exact id, 0, by rw [he]; simp⟩

theorem ReceiverKeeps.trans {s t u : State} (h : ReceiverKeeps s t) (k : ReceiverKeeps t u) :
    ReceiverKeeps s u :=
  ⟨k.configured.trans h.configured, k.enable.trans h.enable, k.sample.trans h.sample,
    k.level.trans h.level, fun r => k.run (h.run r), by
      obtain ⟨e, he⟩ := h.events
      obtain ⟨f, hf⟩ := k.events
      exact ⟨e ||| f, by rw [hf, he, BitVec.or_assoc]⟩⟩

theorem completeField_keeps (v : Word) (w : Nat) (s : State) : ReceiverKeeps s (completeField v w s) := by
  rcases completeField_cases v w s with ⟨-, h⟩ | ⟨-, h⟩ | ⟨-, h⟩ | ⟨-, h⟩ | ⟨-, -, -, -, h⟩ <;> rw [h]
  · unfold completeChannel
    simp only
    split_ifs
    · exact .of_quiet rfl rfl rfl rfl
    · exact .of_raise _ rfl rfl rfl rfl
  · exact .of_quiet rfl rfl rfl rfl
  · unfold completeTxid
    simp only
    split_ifs
    · exact .of_raise _ rfl rfl rfl rfl
    · exact .of_quiet rfl rfl rfl rfl
  · exact .of_quiet rfl rfl rfl rfl
  · unfold completeCrc
    split_ifs <;> exact .of_raise _ rfl rfl rfl rfl

theorem smStep_keeps (b : Level) (s : State) : ReceiverKeeps s (smStep b s) := by
  rcases smStep_cases b s with ⟨-, h⟩ | ⟨-, -, h⟩ | ⟨-, h⟩ <;> rw [h]
  · rcases syncArm_cases b s with h | h <;> rw [h]
    · exact .of_quiet rfl rfl rfl rfl
    · exact .of_raise _ rfl rfl rfl rfl
  · rcases fieldArm_cases b s with ⟨-, h⟩ | ⟨-, -, h⟩ | ⟨-, -, h⟩ <;> rw [h]
    · exact .of_raise _ rfl rfl rfl rfl
    · exact .of_quiet rfl rfl rfl rfl
    · exact ReceiverKeeps.trans (t := { s with man := (s.man.add b).1.pop }) (.of_quiet rfl rfl rfl rfl)
        (completeField_keeps _ _ _)
  · exact ⟨rfl, rfl, rfl, rfl, fun _ => rfl, _, rfl⟩

theorem replay_keeps (b : Level) (n : Nat) (s : State) : ReceiverKeeps s (replay b n s) := by
  induction n generalizing s with
  | zero => exact .refl s
  | succ n ih =>
    unfold replay
    split_ifs
    · exact .refl s
    · exact (smStep_keeps b s).trans (ih _)

theorem completeField_frame (v : Word) (w : Nat) (s : State) : ReceiverFrame s (completeField v w s) := by
  rcases completeField_cases v w s with ⟨-, h⟩ | ⟨-, h⟩ | ⟨-, h⟩ | ⟨-, h⟩ | ⟨-, -, -, -, h⟩ <;> rw [h]
  · unfold completeChannel; simp only; split_ifs <;> rfl
  · rfl
  · unfold completeTxid; simp only; split_ifs <;> rfl
  · rfl
  · unfold completeCrc; split_ifs <;> rfl

theorem smStep_frame (b : Level) (s : State) : ReceiverFrame s (smStep b s) := by
  rcases smStep_cases b s with ⟨-, h⟩ | ⟨-, -, h⟩ | ⟨-, h⟩ <;> rw [h]
  · rcases syncArm_cases b s with h | h <;> rw [h] <;> rfl
  · rcases fieldArm_cases b s with ⟨-, h⟩ | ⟨-, -, h⟩ | ⟨-, -, h⟩ <;> rw [h]
    · rfl
    · rfl
    · exact ReceiverFrame.trans (t := { s with man := (s.man.add b).1.pop }) rfl (completeField_frame _ _ _)
  · rfl

theorem replay_frame (b : Level) (n : Nat) (s : State) : ReceiverFrame s (replay b n s) := by
  induction n generalizing s with
  | zero => rfl
  | succ n ih =>
    unfold replay
    split_ifs
    · rfl
    · exact (smStep_frame b s).trans (ih _)

/-- A property that every state-machine step keeps is kept by the replays of a level. -/
theorem replay_induction {P : State → Prop} (b : Level) (h : ∀ s, P s → P (smStep b s)) (n : Nat)
    (s : State) (hs : P s) : P (replay b n s) := by
  induction n generalizing s with
  | zero => exact hs
  | succ n ih =>
    unfold replay
    split_ifs
    · exact hs
    · exact ih _ (h s hs)

/-- What a pushed level does (44_receiver.md R300). -/
theorem rxPush_cases (l : Level) (s : State) :
    (l = s.rx.prevLevel ∧ rxPush l s = { count .level s with trk := s.trk.extend }) ∨
      (l ≠ s.rx.prevLevel ∧
        rxPush l s =
          { replay s.rx.prevLevel s.trk.curCount (count .level s) with
            trk := (replay s.rx.prevLevel s.trk.curCount (count .level s)).trk.startSymbol
            rx := { (replay s.rx.prevLevel s.trk.curCount (count .level s)).rx with prevLevel := l } }) := by
  by_cases h : l = s.rx.prevLevel
  · exact .inl ⟨h, if_pos h⟩
  · exact .inr ⟨h, if_neg h⟩

theorem rxPush_frame (l : Level) (s : State) : ReceiverFrame s (rxPush l s) := by
  rcases rxPush_cases l s with ⟨-, h⟩ | ⟨-, h⟩ <;> rw [h]
  · rfl
  · have hr := replay_frame s.rx.prevLevel s.trk.curCount (count .level s)
    unfold ReceiverFrame at hr ⊢
    conv_lhs => rw [hr]
    rfl

/-- What a pushed level keeps beside the count of levels (44_receiver.md R300). -/
theorem rxPush_keeps (l : Level) (s : State) : ReceiverKeeps (count .level s) (rxPush l s) := by
  rcases rxPush_cases l s with ⟨-, h⟩ | ⟨-, h⟩ <;> rw [h]
  · exact .of_quiet rfl rfl rfl rfl
  · exact (replay_keeps s.rx.prevLevel s.trk.curCount (count .level s)).trans (.of_quiet rfl rfl rfl rfl)

theorem rxPush_prevLevel (l : Level) (s : State) : (rxPush l s).rx.prevLevel = l := by
  rcases rxPush_cases l s with ⟨hl, h⟩ | ⟨-, h⟩ <;> rw [h]
  exact hl.symm

end Sys2Proof.Machine
end

