-- ==== Sys2Proof/Laws/Pipeline.lean ====
section
/-! SUPPORT. What a filter stage and a pipeline step can do, said once (40_filter.md R181, R190), and what
they leave as it was. -/

namespace Sys2Proof.Machine

/-- A filter stage's FilterCompute answers from its own registers, shift register and tables, and moves
nothing else (R181). -/
theorem filterStage0_ok {x : C32} {s t : State} {out : Option C32} (h : filterStage0 x s = .ok (t, out)) :
    ∃ r, filterCompute complexOps (complexDraw s) s.mem .s0 s.stage0 s.shift0 x = .ok r ∧ out = r.out ∧
      t = { s with stage0 := r.regs, shift0 := r.shift } := by
  unfold filterStage0 at h
  split at h <;> cases h
  rename_i r e
  exact ⟨r, e, rfl, rfl⟩

theorem filterStage1_ok {x : F32} {s t : State} {out : Option F32} (h : filterStage1 x s = .ok (t, out)) :
    ∃ r, filterCompute realOps (shiftDraw s .s1 .first) s.mem .s1 s.stage1 s.shift1 x = .ok r ∧
      out = r.out ∧ t = { s with stage1 := r.regs, shift1 := r.shift } := by
  unfold filterStage1 at h
  split at h <;> cases h
  rename_i r e
  exact ⟨r, e, rfl, rfl⟩

theorem filterStage2_ok {x : F32} {s t : State} {out : Option F32} (h : filterStage2 x s = .ok (t, out)) :
    ∃ r, filterCompute realOps (shiftDraw s .s2 .first) s.mem .s2 s.stage2 s.shift2 x = .ok r ∧
      out = r.out ∧ t = { s with stage2 := r.regs, shift2 := r.shift } := by
  unfold filterStage2 at h
  split at h <;> cases h
  rename_i r e
  exact ⟨r, e, rfl, rfl⟩

theorem filterStage0_error {x : C32} {s : State} {f : Fault} (h : filterStage0 x s = .error f) :
    filterCompute complexOps (complexDraw s) s.mem .s0 s.stage0 s.shift0 x = .error f := by
  unfold filterStage0 at h
  split at h <;> cases h
  assumption

theorem filterStage1_error {x : F32} {s : State} {f : Fault} (h : filterStage1 x s = .error f) :
    filterCompute realOps (shiftDraw s .s1 .first) s.mem .s1 s.stage1 s.shift1 x = .error f := by
  unfold filterStage1 at h
  split at h <;> cases h
  assumption

theorem filterStage2_error {x : F32} {s : State} {f : Fault} (h : filterStage2 x s = .error f) :
    filterCompute realOps (shiftDraw s .s2 .first) s.mem .s2 s.stage2 s.shift2 x = .error f := by
  unfold filterStage2 at h
  split at h <;> cases h
  assumption

/-- Everything a pipeline step that goes on can do (R190): how far it got, and with which outputs. -/
theorem pipelineStep_ok {x : C32} {s t : State} (h : pipelineStep x s = .ok t) :
    filterStage0 x (count .sample s) = .ok (t, none) ∨
      ∃ s1 o0, filterStage0 x (count .sample s) = .ok (s1, some o0) ∧
        (filterStage1 (cmag o0) s1 = .ok (t, none) ∨
          ∃ s2 o1, filterStage1 (cmag o0) s1 = .ok (s2, some o1) ∧
            (filterStage2 o1 s2 = .ok (t, none) ∨
              ∃ s3 o2, filterStage2 o1 s2 = .ok (s3, some o2) ∧ t = rxPush (slice o2) s3)) := by
  unfold pipelineStep at h
  split at h
  · cases h
  · rename_i s1 e0
    cases h
    exact .inl e0
  · rename_i s1 o0 e0
    refine .inr ⟨s1, o0, e0, ?_⟩
    split at h
    · cases h
    · rename_i s2 e1
      cases h
      exact .inl e1
    · rename_i s2 o1 e1
      refine .inr ⟨s2, o1, e1, ?_⟩
      split at h
      · cases h
      · rename_i s3 e2
        cases h
        exact .inl e2
      · rename_i s3 o2 e2
        cases h
        exact .inr ⟨s3, o2, e2, rfl⟩

/-- What a pipeline step leaves as it was: everything the filters' run-time state and the receiver do not
own. -/
structure PipelineFrame (s t : State) : Prop where
  rest : t = { s with
    ctrl := t.ctrl, evt := t.evt, stage0 := t.stage0, stage1 := t.stage1, stage2 := t.stage2
    shift0 := t.shift0, shift1 := t.shift1, shift2 := t.shift2, rx := t.rx, trk := t.trk, man := t.man
    crc := t.crc, cur := t.cur, msg := t.msg, counters := t.counters, msgOut := t.msgOut }
  stage0 : StageKeeps s.stage0 t.stage0
  stage1 : StageKeeps s.stage1 t.stage1
  stage2 : StageKeeps s.stage2 t.stage2
  configured : t.ctrl.configured = s.ctrl.configured
  enable : t.evt.enable = s.evt.enable
  events : ∃ e, t.evt.status = s.evt.status ||| e
  sample : t.counters.sample = s.counters.sample + 1

/-- The receiver's part of a pipeline step keeps to the frame. -/
theorem PipelineFrame.of_receiver {s u t : State} (h : PipelineFrame s u) (f : ReceiverFrame u t)
    (k : ReceiverKeeps (count .level u) t) : PipelineFrame s t := by
  have e0 : t.stage0 = u.stage0 := by unfold ReceiverFrame at f; rw [f]
  have e1 : t.stage1 = u.stage1 := by unfold ReceiverFrame at f; rw [f]
  have e2 : t.stage2 = u.stage2 := by unfold ReceiverFrame at f; rw [f]
  have e3 : t.shift0 = u.shift0 := by unfold ReceiverFrame at f; rw [f]
  have e4 : t.shift1 = u.shift1 := by unfold ReceiverFrame at f; rw [f]
  have e5 : t.shift2 = u.shift2 := by unfold ReceiverFrame at f; rw [f]
  refine ⟨?_, e0 ▸ h.stage0, e1 ▸ h.stage1, e2 ▸ h.stage2, k.configured.trans h.configured,
    k.enable.trans h.enable, ?_, k.sample.trans h.sample⟩
  · rw [e0, e1, e2, e3, e4, e5]
    unfold ReceiverFrame at f
    rw [h.rest] at f
    exact f
  · obtain ⟨e, he⟩ := h.events
    obtain ⟨g, hg⟩ := k.events
    exact ⟨e ||| g, by rw [hg, count_evt, he, BitVec.or_assoc]⟩

theorem pipelineStep_frame {x : C32} {s t : State} (h : pipelineStep x s = .ok t) : PipelineFrame s t := by
  rcases pipelineStep_ok h with h0 | ⟨s1, o0, h0, h1⟩
  · obtain ⟨r0, e0, -, rfl⟩ := filterStage0_ok h0
    exact ⟨rfl, filterCompute_keeps e0, .refl _, .refl _, rfl, rfl, ⟨0, by simp⟩, rfl⟩
  · obtain ⟨r0, e0, -, rfl⟩ := filterStage0_ok h0
    rcases h1 with h1 | ⟨s2, o1, h1, h2⟩
    · obtain ⟨r1, e1, -, rfl⟩ := filterStage1_ok h1
      exact ⟨rfl, filterCompute_keeps e0, filterCompute_keeps e1, .refl _, rfl, rfl, ⟨0, by simp⟩, rfl⟩
    · obtain ⟨r1, e1, -, rfl⟩ := filterStage1_ok h1
      rcases h2 with h2 | ⟨s3, o2, h2, rfl⟩ <;> obtain ⟨r2, e2, -, rfl⟩ := filterStage2_ok h2
      · exact ⟨rfl, filterCompute_keeps e0, filterCompute_keeps e1, filterCompute_keeps e2, rfl, rfl,
          ⟨0, by simp⟩, rfl⟩
      · refine PipelineFrame.of_receiver ?_ (rxPush_frame _ _) (rxPush_keeps _ _)
        exact ⟨rfl, filterCompute_keeps e0, filterCompute_keeps e1, filterCompute_keeps e2, rfl, rfl,
          ⟨0, by simp⟩, rfl⟩

end Sys2Proof.Machine
end

