-- ==== Sys2Proof/Laws/Frame.lean ====
section
/-! SUPPORT. What no command touches, proved once for every constructor: the configuration, the written RAM
words, the agents' offers and the event enables; and no command clears an event (20_memory.md R112,
60_exceptions.md R380). -/

namespace Sys2Proof.Machine

/-- The configuration of a stage. -/
def SameStageConfig (r t : StageRegs) : Prop :=
  t.ntaps = r.ntaps ∧ t.decim = r.decim ∧ t.fs = r.fs ∧ t.ftrans = r.ftrans ∧ t.transEn = r.transEn

theorem StageKeeps.config {r t : StageRegs} (h : StageKeeps r t) : SameStageConfig r t := by
  unfold StageKeeps at h
  rw [h]
  exact ⟨rfl, rfl, rfl, rfl, rfl⟩

/-- What every command that goes on leaves as it was. -/
structure CommandFrame (s t : State) : Prop where
  mem : t.mem = s.mem
  cfg : t.cfg = s.cfg
  busOut : t.busOut = s.busOut
  bus : t.bus = s.bus
  samples : t.samples = s.samples
  turns : t.turns = s.turns
  epoch : t.epoch = s.epoch
  stage0 : SameStageConfig s.stage0 t.stage0
  stage1 : SameStageConfig s.stage1 t.stage1
  stage2 : SameStageConfig s.stage2 t.stage2
  enable : t.evt.enable = s.evt.enable
  events : ∃ e, t.evt.status = s.evt.status ||| e

theorem SameStageConfig.refl (r : StageRegs) : SameStageConfig r r := ⟨rfl, rfl, rfl, rfl, rfl⟩

/-- A command that leaves the stages and the events alone. -/
theorem CommandFrame.of_quiet {s t : State}
    (h : t = { s with
      ctrl := t.ctrl, cmd := t.cmd, rx := t.rx, trk := t.trk, man := t.man, crc := t.crc, cur := t.cur
      msg := t.msg, counters := t.counters }) : CommandFrame s t := by
  rw [h]
  exact ⟨rfl, rfl, rfl, rfl, rfl, rfl, rfl, .refl _, .refl _, .refl _, rfl, 0, by simp⟩

theorem CommandFrame.of_cmdError (code : BitVec 4) (s : State) : CommandFrame s (cmdError code s) :=
  ⟨rfl, rfl, rfl, rfl, rfl, rfl, rfl, .refl _, .refl _, .refl _, rfl, _, rfl⟩

theorem CommandFrame.of_pipeline {s t : State} (h : PipelineFrame s t) : CommandFrame s (finish t) := by
  have r := h.rest
  refine ⟨?_, ?_, ?_, ?_, ?_, ?_, ?_, h.stage0.config, h.stage1.config, h.stage2.config, h.enable,
    h.events⟩ <;> simp only [finish_mem, finish_cfg, finish_busOut, finish_bus, finish_samples, finish_turns,
      finish_epoch] <;> rw [r]

/-- A component command is framed if its effect is. -/
theorem CommandFrame.of_component {body : State → Host.Outcome State Fault Refusal} {s t : State}
    (hb : body s = .next t → CommandFrame s t) (h : component body s = .next t) : CommandFrame s t := by
  rcases component_cases body s with ⟨-, e⟩ | ⟨-, -, e⟩ | ⟨-, -, e⟩ <;> rw [e] at h
  · cases h; exact .of_cmdError _ s
  · cases h; exact .of_cmdError _ s
  · exact hb h

theorem execConfigure_frame {s t : State} (h : execConfigure s = .next t) : CommandFrame s t := by
  rcases execConfigure_cases s with ⟨-, e⟩ | ⟨code, index, -, -, e⟩ | ⟨-, -, e⟩ <;> rw [e] at h <;> cases h
  · exact .of_cmdError _ s
  · exact ⟨rfl, rfl, rfl, rfl, rfl, rfl, rfl, .refl _, .refl _, .refl _, rfl, _, rfl⟩
  · exact ⟨rfl, rfl, rfl, rfl, rfl, rfl, rfl, .refl _, .refl _, .refl _, rfl, 0,
      by simp [finish, configureDone, initRuntime]⟩

theorem execPipePush_frame {s t : State} (h : execPipePush s = .next t) : CommandFrame s t := by
  unfold execPipePush at h
  split at h
  · split at h <;> cases h
    rename_i s1 e
    exact .of_pipeline (pipelineStep_frame e)
  · cases h
    exact .of_cmdError _ s

theorem execRxPushLevel_frame {l : Level} {s t : State} (h : execRxPushLevel l s = .next t) :
    CommandFrame s t := by
  refine CommandFrame.of_component (fun h => ?_) h
  cases h
  have f := rxPush_frame l s
  have k := rxPush_keeps l s
  unfold ReceiverFrame at f
  refine ⟨?_, ?_, ?_, ?_, ?_, ?_, ?_, ?_, ?_, ?_, k.enable, k.events⟩ <;>
    simp only [finish_mem, finish_cfg, finish_busOut, finish_bus, finish_samples, finish_turns, finish_epoch,
      finish_stage0, finish_stage1, finish_stage2] <;> rw [f] <;> exact .refl _

theorem oscAdvance_config (r : StageRegs) : SameStageConfig r (oscAdvance r) := ⟨rfl, rfl, rfl, rfl, rfl⟩

theorem execOscNext_frame {sel : BitVec 2} {s t : State} (h : execOscNext sel s = .next t) :
    CommandFrame s t := by
  unfold execOscNext at h
  split at h
  · cases h
    exact .of_cmdError _ s
  · rename_i sid _
    refine CommandFrame.of_component (fun h => ?_) h
    split at h
    · split at h <;> cases h
      rename_i w r e
      obtain ⟨-, rfl⟩ := oscNext_ok e
      cases sid
      · exact ⟨rfl, rfl, rfl, rfl, rfl, rfl, rfl, oscAdvance_config _, .refl _, .refl _, rfl, 0,
          by simp [finishWith, State.setStage]⟩
      · exact ⟨rfl, rfl, rfl, rfl, rfl, rfl, rfl, .refl _, oscAdvance_config _, .refl _, rfl, 0,
          by simp [finishWith, State.setStage]⟩
      · exact ⟨rfl, rfl, rfl, rfl, rfl, rfl, rfl, .refl _, .refl _, oscAdvance_config _, rfl, 0,
          by simp [finishWith, State.setStage]⟩
    · cases h
      exact .of_cmdError _ s

/-- FILT_COMPUTE's result registers are the last thing it writes. -/
theorem finishFilter_frame (out : Option (F32 × F32)) (s : State) :
    finishFilter out s = { s with cmd := (finishFilter out s).cmd } := by
  unfold finishFilter; split <;> rfl

theorem CommandFrame.of_finishFilter {s u : State} (out : Option (F32 × F32)) (h : CommandFrame s u) :
    CommandFrame s (finishFilter out u) := by
  have f := finishFilter_frame out u
  have e : ∀ c, CommandFrame s { u with cmd := c } := fun c =>
    ⟨h.mem, h.cfg, h.busOut, h.bus, h.samples, h.turns, h.epoch, h.stage0, h.stage1, h.stage2, h.enable, h.events⟩
  rw [f]
  exact e _

theorem execFiltCompute_frame {sel : BitVec 2} {s t : State} (h : execFiltCompute sel s = .next t) :
    CommandFrame s t := by
  unfold execFiltCompute at h
  split at h
  · cases h
    exact .of_cmdError _ s
  · refine CommandFrame.of_component (fun h => ?_) h
    split at h <;> cases h
    rename_i s1 out e
    obtain ⟨r, er, -, rfl⟩ := filterStage0_ok e
    exact .of_finishFilter _
      ⟨rfl, rfl, rfl, rfl, rfl, rfl, rfl, (filterCompute_keeps er).config, .refl _, .refl _, rfl, 0, by simp⟩
  · refine CommandFrame.of_component (fun h => ?_) h
    split at h <;> cases h
    rename_i s1 out e
    obtain ⟨r, er, -, rfl⟩ := filterStage1_ok e
    exact .of_finishFilter _
      ⟨rfl, rfl, rfl, rfl, rfl, rfl, rfl, .refl _, (filterCompute_keeps er).config, .refl _, rfl, 0, by simp⟩
  · refine CommandFrame.of_component (fun h => ?_) h
    split at h <;> cases h
    rename_i s1 out e
    obtain ⟨r, er, -, rfl⟩ := filterStage2_ok e
    exact .of_finishFilter _
      ⟨rfl, rfl, rfl, rfl, rfl, rfl, rfl, .refl _, .refl _, (filterCompute_keeps er).config, rfl, 0, by simp⟩

theorem execCrcPush_frame {n : BitVec 6} {acc : Bool} {s t : State} (h : execCrcPush n acc s = .next t) :
    CommandFrame s t := by
  unfold execCrcPush at h
  split at h
  · cases h
    exact .of_cmdError _ s
  · refine CommandFrame.of_component (fun h => ?_) h
    cases h
    exact .of_quiet rfl

/-- Every command keeps to the frame. -/
theorem exec_frame {i : Instr} {s t : State} (h : exec i s = .next t) : CommandFrame s t := by
  cases i with
  | nop => cases h; exact .of_quiet rfl
  | configure => exact execConfigure_frame h
  | pipePush => exact execPipePush_frame h
  | rxPushLevel lvl => exact execRxPushLevel_frame h
  | rxAbort =>
    unfold exec execRxAbort at h
    exact .of_component (fun h => by cases h; exact .of_quiet rfl) h
  | oscNext sel => exact execOscNext_frame h
  | filtCompute sel => exact execFiltCompute_frame h
  | trkExtend =>
    unfold exec execTrkExtend at h
    exact .of_component (fun h => by cases h; exact .of_quiet rfl) h
  | trkStartSymbol =>
    unfold exec execTrkStartSymbol at h
    exact .of_component (fun h => by cases h; exact .of_quiet rfl) h
  | trkCount =>
    unfold exec execTrkCount at h
    exact .of_component (fun h => by cases h; exact .of_quiet rfl) h
  | trkLockAvg =>
    unfold exec execTrkLockAvg at h
    exact .of_component (fun h => by cases h; exact .of_quiet rfl) h
  | trkResetAvg =>
    unfold exec execTrkResetAvg at h
    exact .of_component (fun h => by cases h; exact .of_quiet rfl) h
  | manAdd lvl =>
    unfold exec execManAdd at h
    exact .of_component (fun h => by cases h; exact .of_quiet rfl) h
  | manPopAll =>
    unfold exec execManPopAll at h
    exact .of_component (fun h => by cases h; exact .of_quiet rfl) h
  | manSize =>
    unfold exec execManSize at h
    exact .of_component (fun h => by cases h; exact .of_quiet rfl) h
  | manReset =>
    unfold exec execManReset at h
    exact .of_component (fun h => by cases h; exact .of_quiet rfl) h
  | crcPush n acc => exact execCrcPush_frame h
  | crcFinalize =>
    unfold exec execCrcFinalize at h
    exact .of_component (fun h => by cases h; exact .of_quiet rfl) h
  | crcReset =>
    unfold exec execCrcReset at h
    exact .of_component (fun h => by cases h; exact .of_quiet rfl) h
  | crcSelect sel =>
    unfold exec execCrcSelect at h
    exact .of_component (fun h => by cases h; exact .of_quiet rfl) h

end Sys2Proof.Machine
end

