-- ==== Sys2Proof/Laws/Manchester.lean ====
section
/-! SUPPORT. The three outcomes of `ManAdd` said once (42_manchester.md R250 to R252). -/

namespace Sys2Proof.Machine

@[simp] theorem bitAt_zero_true : bitAt 0 true = 1 := rfl

@[simp] theorem bitAt_zero_false : bitAt 0 false = 0 := rfl

@[simp] theorem Manchester.shiftBit_pendValid (m : Manchester) (b : Bool) :
    (m.shiftBit b).pendValid = false := rfl

@[simp] theorem Manchester.shiftBit_pendLevel (m : Manchester) (b : Bool) :
    (m.shiftBit b).pendLevel = m.pendLevel := rfl

@[simp] theorem Manchester.shiftBit_acc (m : Manchester) (b : Bool) :
    (m.shiftBit b).acc = m.acc <<< 1 ||| bitAt 0 b := rfl

theorem Manchester.shiftBit_acc_toNat (m : Manchester) (b : Bool) :
    (m.shiftBit b).acc.toNat = (2 * m.acc.toNat + b.toNat) % 2 ^ 32 := by
  have h : m.acc <<< 1 ||| bitAt 0 b = m.acc <<< 1 + bitAt 0 b := by
    refine (BitVec.add_eq_or_of_and_eq_zero _ _ ?_).symm
    ext i hi
    cases b <;> simp
    rcases i with - | i <;> simp
  rw [Manchester.shiftBit_acc, h, BitVec.toNat_add, BitVec.toNat_shiftLeft, Nat.shiftLeft_eq]
  cases b <;> simp [Nat.mul_comm]

/-- The count saturates at 32 (R253). -/
theorem Manchester.shiftBit_cnt_toNat (m : Manchester) (b : Bool) :
    (m.shiftBit b).cnt.toNat = min (m.cnt.toNat + 1) 32 := by
  simp [Manchester.shiftBit, Config.manAccWidth]

theorem Manchester.add_of_not_pending {m : Manchester} (h : m.pendValid = false) (l : Level) :
    m.add l = ({ m with pendLevel := l, pendValid := true }, .buffered) := by simp [Manchester.add, h]

theorem Manchester.add_of_opposite {m : Manchester} {l : Level} (h : m.pendValid = true)
    (hl : m.pendLevel = !l) : m.add l = (m.shiftBit l, .decoded l) := by
  cases l <;> simp [Manchester.add, h, hl, pairBit]

theorem Manchester.add_of_equal {m : Manchester} {l : Level} (h : m.pendValid = true)
    (hl : m.pendLevel = l) : m.add l = (m, .invalid) := by
  cases l <;> simp [Manchester.add, h, hl, pairBit]

/-- Everything `ManAdd` can do (R252). -/
theorem Manchester.add_cases (m : Manchester) (l : Level) :
    (m.pendValid = false ∧ m.add l = ({ m with pendLevel := l, pendValid := true }, .buffered)) ∨
      (m.pendValid = true ∧ (m.pendLevel = !l) ∧ m.add l = (m.shiftBit l, .decoded l)) ∨
      (m.pendValid = true ∧ m.pendLevel = l ∧ m.add l = (m, .invalid)) := by
  cases hv : m.pendValid
  · exact .inl ⟨rfl, add_of_not_pending hv l⟩
  · rcases Bool.eq_or_eq_not m.pendLevel l with hl | hl
    · exact .inr (.inr ⟨rfl, hl, add_of_equal hv hl⟩)
    · exact .inr (.inl ⟨rfl, hl, add_of_opposite hv hl⟩)

/-- The count never grows by more than one and stays within 32 (R253). -/
theorem Manchester.add_cnt_le (m : Manchester) (l : Level) (h : m.cnt.toNat ≤ 32) :
    (m.add l).1.cnt.toNat ≤ 32 := by
  rcases m.add_cases l with ⟨-, e⟩ | ⟨-, -, e⟩ | ⟨-, -, e⟩ <;> rw [e]
  · exact h
  · rw [Manchester.shiftBit_cnt_toNat]; omega
  · exact h

end Sys2Proof.Machine
end

