-- ==== Sys2Proof/Laws/Memory.lean ====
section
/-! SUPPORT. The written RAM words: reading after writing, and the canonical form every operation
keeps. -/

namespace Sys2Proof.Machine

theorem readByte_nil (a : Nat) : Memory.readByte [] a = none := rfl

theorem readByte_cons (c : Host.Cell) (m : Memory) (a : Nat) :
    Memory.readByte (c :: m) a = if a = c.1 then some c.2 else Memory.readByte m a := rfl

/-- A byte reads as it was written, and every other byte as before. -/
theorem readByte_writeByte (m : Memory) (a b : Nat) (x : Byte) :
    (Memory.writeByte m a x).readByte b = if b = a then some x else m.readByte b := by
  induction m with
  | nil => simp [Memory.writeByte, Memory.readByte]
  | cons c m ih =>
    simp only [Memory.writeByte]
    by_cases hlt : a < c.1
    · simp [hlt, readByte_cons]
    · by_cases heq : a = c.1
      · by_cases hb : b = c.1 <;> simp [readByte_cons, heq, hb]
      · by_cases hb : b = c.1
        · simp [hlt, heq, readByte_cons, hb]
          intro h; exact absurd h.symm heq
        · simp [hlt, heq, readByte_cons, hb, ih]

@[simp] theorem readByte_writeByte_same (m : Memory) (a : Nat) (x : Byte) :
    (Memory.writeByte m a x).readByte a = some x := by simp [readByte_writeByte]

theorem readByte_writeByte_other (m : Memory) (a b : Nat) (x : Byte) (h : b ≠ a) :
    (Memory.writeByte m a x).readByte b = m.readByte b := by simp [readByte_writeByte, h]

/-- Every address of a memory after a byte write is the written one or was there before. -/
theorem mem_writeByte (m : Memory) (a : Nat) (x : Byte) (c : Host.Cell)
    (h : c ∈ Memory.writeByte m a x) : c.1 = a ∨ c ∈ m := by
  induction m with
  | nil => simp [Memory.writeByte] at h; simp [h]
  | cons d m ih =>
    simp only [Memory.writeByte] at h
    split_ifs at h <;> simp only [List.mem_cons] at h ⊢
    · rcases h with rfl | rfl | h <;> simp_all
    · rcases h with rfl | h <;> simp_all
    · rcases h with rfl | h
      · simp
      · rcases ih h with h | h <;> simp [h]

/-- A byte write keeps the canonical form. -/
theorem writeByte_wf (m : Memory) (a : Nat) (x : Byte) (h : m.wf) : (Memory.writeByte m a x).wf := by
  induction m with
  | nil => simp [Memory.writeByte, Memory.wf]
  | cons d m ih =>
    simp only [Memory.wf, List.pairwise_cons] at h ih
    simp only [Memory.writeByte]
    split_ifs with h1 h2
    · refine List.pairwise_cons.2 ⟨?_, List.pairwise_cons.2 h⟩
      intro c hc
      rcases List.mem_cons.1 hc with rfl | hc
      · exact h1
      · exact h1.trans (h.1 c hc)
    · subst h2; exact List.pairwise_cons.2 h
    · refine List.pairwise_cons.2 ⟨?_, ih h.2⟩
      intro c hc
      rcases mem_writeByte m a x c hc with hc | hc
      · omega
      · exact h.1 c hc

/-- A word write keeps the canonical form. -/
theorem writeWord_wf (m : Memory) (a : Nat) (w : Word) (h : m.wf) : (m.writeWord a w).wf :=
  writeByte_wf _ _ _ (writeByte_wf _ _ _ (writeByte_wf _ _ _ (writeByte_wf _ _ _ h)))

/-- The four byte lanes of a word put together again. -/
theorem lanes_of_word (w : Word) :
    fieldAt 0 (w.extractLsb' 0 8) ||| fieldAt 8 (w.extractLsb' 8 8) ||| fieldAt 16 (w.extractLsb' 16 8) |||
      fieldAt 24 (w.extractLsb' 24 8) = w := by
  apply BitVec.eq_of_getLsbD_eq
  intro i hi
  have : i < 8 ∨ (8 ≤ i ∧ i < 16) ∨ (16 ≤ i ∧ i < 24) ∨ (24 ≤ i ∧ i < 32) := by omega
  rcases this with h | h | h | h <;>
    simp [fieldAt, BitVec.getLsbD_extractLsb', hi] <;> grind

/-- A word reads as it was written. -/
@[simp] theorem readWord_writeWord_same (m : Memory) (a : Nat) (w : Word) :
    (m.writeWord a w).readWord a = some w := by
  simp [Memory.readWord, Memory.writeWord, readByte_writeByte, lanes_of_word]

/-- A byte outside a written word reads as before. -/
theorem readByte_writeWord_other (m : Memory) (a b : Nat) (w : Word) (h : b < a ∨ a + 4 ≤ b) :
    (m.writeWord a w).readByte b = m.readByte b := by
  have h0 : b ≠ a := by omega
  have h1 : b ≠ a + 1 := by omega
  have h2 : b ≠ a + 2 := by omega
  have h3 : b ≠ a + 3 := by omega
  simp [Memory.writeWord, readByte_writeByte, h0, h1, h2, h3]

/-- A word that does not overlap a written word reads as before. -/
theorem readWord_writeWord_other (m : Memory) (a b : Nat) (w : Word) (h : b + 4 ≤ a ∨ a + 4 ≤ b) :
    (m.writeWord a w).readWord b = m.readWord b := by
  simp only [Memory.readWord]
  rw [readByte_writeWord_other m a b w (by omega), readByte_writeWord_other m a (b + 1) w (by omega),
    readByte_writeWord_other m a (b + 2) w (by omega), readByte_writeWord_other m a (b + 3) w (by omega)]

/-- A word reads as written exactly if its four bytes do. -/
theorem readWord_isSome (m : Memory) (a : Nat) :
    (m.readWord a).isSome ↔
      (m.readByte a).isSome ∧ (m.readByte (a + 1)).isSome ∧ (m.readByte (a + 2)).isSome ∧
        (m.readByte (a + 3)).isSome := by
  simp only [Memory.readWord]
  cases m.readByte a <;> cases m.readByte (a + 1) <;> cases m.readByte (a + 2) <;>
    cases m.readByte (a + 3) <;> simp

end Sys2Proof.Machine
end

