-- ==== Sys2Proof/Laws/PerInstr.lean ====
section
/-! SUPPORT. The facts about a command as syntax that are proved one constructor at a time: the row of the
opcode map its word belongs to (30_encoding.md R134). -/

namespace Sys2Proof.Laws.RowMatch

/-- The match and mask columns of a command's row of the opcode map (30_encoding.md R134). -/
def row : Instr → Word × Word
  | .nop => (0x00000000, 0xFFFFFFFF)
  | .configure => (0x01000000, 0xFFFFFFFF)
  | .pipePush => (0x02000000, 0xFFFFFFFF)
  | .rxPushLevel _ => (0x03000000, 0xFFFFFFFE)
  | .rxAbort => (0x04000000, 0xFFFFFFFF)
  | .oscNext _ => (0x10000000, 0xFFFCFFFF)
  | .filtCompute _ => (0x11000000, 0xFFFCFFFF)
  | .trkExtend => (0x20000000, 0xFFFFFFFF)
  | .trkStartSymbol => (0x21000000, 0xFFFFFFFF)
  | .trkCount => (0x22000000, 0xFFFFFFFF)
  | .trkLockAvg => (0x23000000, 0xFFFFFFFF)
  | .trkResetAvg => (0x24000000, 0xFFFFFFFF)
  | .manAdd _ => (0x30000000, 0xFFFFFFFE)
  | .manPopAll => (0x31000000, 0xFFFFFFFF)
  | .manSize => (0x32000000, 0xFFFFFFFF)
  | .manReset => (0x33000000, 0xFFFFFFFF)
  | .crcPush _ _ => (0x40000000, 0xFFFFFEC0)
  | .crcFinalize => (0x41000000, 0xFFFFFFFF)
  | .crcReset => (0x42000000, 0xFFFFFFFF)
  | .crcSelect _ => (0x43000000, 0xFFFCFFFF)

/-- A command's word carries its row's fixed bits, whatever its operands are. -/
def Statement (i : Instr) : Prop := encode i &&& (row i).2 = (row i).1

theorem nop : Statement .nop := rfl

theorem configure : Statement .configure := rfl

theorem pipePush : Statement .pipePush := rfl

theorem rxPushLevel (lvl : Level) : Statement (.rxPushLevel lvl) := by cases lvl <;> rfl

theorem rxAbort : Statement .rxAbort := rfl

theorem oscNext (sel : BitVec 2) : Statement (.oscNext sel) := by revert sel; unfold Statement; decide

theorem filtCompute (sel : BitVec 2) : Statement (.filtCompute sel) := by revert sel; unfold Statement; decide

theorem trkExtend : Statement .trkExtend := rfl

theorem trkStartSymbol : Statement .trkStartSymbol := rfl

theorem trkCount : Statement .trkCount := rfl

theorem trkLockAvg : Statement .trkLockAvg := rfl

theorem trkResetAvg : Statement .trkResetAvg := rfl

theorem manAdd (lvl : Level) : Statement (.manAdd lvl) := by cases lvl <;> rfl

theorem manPopAll : Statement .manPopAll := rfl

theorem manSize : Statement .manSize := rfl

theorem manReset : Statement .manReset := rfl

theorem crcPush (n : BitVec 6) (acc : Bool) : Statement (.crcPush n acc) := by
  revert n acc; unfold Statement; decide

theorem crcFinalize : Statement .crcFinalize := rfl

theorem crcReset : Statement .crcReset := rfl

theorem crcSelect (sel : BitVec 2) : Statement (.crcSelect sel) := by revert sel; unfold Statement; decide

end Sys2Proof.Laws.RowMatch
end

