-- ==== Sys2Proof/Tests/Slice0.lean ====
section
/-! SUPPORT. The model's own tests. Expected values are the spec's: the encodings of 30_encoding.md R134, the
vectors of 95_test_vectors.md (named V-… beside each test) and the examples of the rules. The last part shows,
for every statement with hypotheses, a state that meets them. -/

open Sys2Proof Sys2Proof.Machine Sys2Proof.Claims

namespace Sys2Proof.Tests

set_option Elab.async false

/-! ### Well-formedness -/

theorem test_oscNext_sel3_illFormed : (Instr.oscNext 3).WellFormed = false := by decide

theorem test_filtCompute_sel3_illFormed : (Instr.filtCompute 3).WellFormed = false := by decide

theorem test_crcPush_33_illFormed : (Instr.crcPush 33 true).WellFormed = false := by decide

theorem test_crcPush_32_wellFormed : (Instr.crcPush 32 false).WellFormed = true := by decide

theorem test_crcSelect_sel3_wellFormed : (Instr.crcSelect 3).WellFormed = true := by decide

/-! ### Decoding, words written out from the opcode map (30_encoding.md R134) -/

theorem test_decode_nop : decode 0x00000000 = .ok .nop := by decide
theorem test_decode_configure : decode 0x01000000 = .ok .configure := by decide
theorem test_decode_pipePush : decode 0x02000000 = .ok .pipePush := by decide
theorem test_decode_rxPushLevel : decode 0x03000001 = .ok (.rxPushLevel true) := by decide
theorem test_decode_rxAbort : decode 0x04000000 = .ok .rxAbort := by decide
theorem test_decode_oscNext : decode 0x10020000 = .ok (.oscNext 2) := by decide
theorem test_decode_filtCompute : decode 0x11010000 = .ok (.filtCompute 1) := by decide
theorem test_decode_trkExtend : decode 0x20000000 = .ok .trkExtend := by decide
theorem test_decode_trkStartSymbol : decode 0x21000000 = .ok .trkStartSymbol := by decide
theorem test_decode_trkCount : decode 0x22000000 = .ok .trkCount := by decide
theorem test_decode_trkLockAvg : decode 0x23000000 = .ok .trkLockAvg := by decide
theorem test_decode_trkResetAvg : decode 0x24000000 = .ok .trkResetAvg := by decide
theorem test_decode_manAdd : decode 0x30000001 = .ok (.manAdd true) := by decide
theorem test_decode_manPopAll : decode 0x31000000 = .ok .manPopAll := by decide
theorem test_decode_manSize : decode 0x32000000 = .ok .manSize := by decide
theorem test_decode_manReset : decode 0x33000000 = .ok .manReset := by decide
theorem test_decode_crcPush : decode 0x40000104 = .ok (.crcPush 4 true) := by decide
theorem test_decode_crcFinalize : decode 0x41000000 = .ok .crcFinalize := by decide
theorem test_decode_crcReset : decode 0x42000000 = .ok .crcReset := by decide
theorem test_decode_crcSelect : decode 0x43030000 = .ok (.crcSelect 3) := by decide

/-- V-E1, V-E2: an unlisted opcode is BAD_OPCODE, whatever the other bits are. -/
theorem test_decode_unlisted :
    decode 0x05000000 = .error .badOpcode ∧ decode 0x05FFFFFF = .error .badOpcode := by decide

/-- V-E3, V-E4, V-E5, V-E7, V-E8: a reserved bit set or an operand out of range is BAD_OPERAND. -/
theorem test_decode_badOperand :
    decode 0x30000002 = .error .badOperand ∧ decode 0x00000001 = .error .badOperand ∧
      decode 0x10030000 = .error .badOperand ∧ decode 0x40000121 = .error .badOperand ∧
      decode 0x40000048 = .error .badOperand := by decide

theorem test_decodeTableWord : decodeTableWord 32 0x40000104 = some (.crcPush 4 true) := by decide

/-! ### binary32 (00_scope.md R16, R17) -/

/-- V-F5: cmag(3 + 4i) is 5, cmag(1 + i) is the rounded root of 2. -/
theorem test_cmag :
    cmag { re := 0x40400000, im := 0x40800000 } = 0x40A00000 ∧
      cmag { re := 0x3F800000, im := 0x3F800000 } = 0x3FB504F3 := by decide +kernel

/-- V-F6: overflow to +Inf, underflow to +0.0, the squares of −0.0, and −Inf. -/
theorem test_cmag_corners :
    cmag { re := 0x5F800000, im := 0 } = 0x7F800000 ∧ cmag { re := 0x17800000, im := 0 } = 0 ∧
      cmag { re := 0x80000000, im := 0x80000000 } = 0 ∧
      cmag { re := 0xFF800000, im := 0x3F800000 } = 0x7F800000 := by decide +kernel

/-- V-F7. -/
theorem test_slice :
    slice 0x00000000 = true ∧ slice 0x80000000 = false ∧ slice 0x00000001 = true ∧
      slice 0x80000001 = false ∧ slice 0x7F800000 = true ∧ slice 0xFF800000 = false ∧
      slice 0x7FC00000 = false ∧ slice 0xFFC00001 = false := by decide

/-- V-F8, and V-F4's second call: (1 + 2i)·i = −2 + i. -/
theorem test_cmul :
    cmul { re := 0, im := 0x3F800000 } { re := 0xBF800000, im := 0 } =
        { re := 0x80000000, im := 0xBF800000 } ∧
      cmul { re := 0x3F800000, im := 0x40000000 } { re := 0, im := 0x3F800000 } =
        { re := 0xC0000000, im := 0x3F800000 } := by decide +kernel

/-! ### The CFG-A configuration of 95_test_vectors.md, and small states -/

/-- A pass-through stage (40_filter.md R180). -/
def passStage : StageRegs :=
  { StageRegs.reset with ntaps := 1, decim := 1, fs := 1 }

/-- The 1.0 coefficient of each pass-through stage. -/
def passCoefs : Memory :=
  ((Memory.writeWord [] 0x1000 0x3F800000).writeWord 0x2000 0x3F800000).writeWord 0x3000 0x3F800000

def txidEntry : PlanEntry := { kind := 3, zchk := true, width := 8 }
def sensorEntry : PlanEntry := { kind := 4, zchk := false, width := 8 }
def headerEntry : PlanEntry := { kind := 2, zchk := false, width := 4 }

/-- A plan of up to three entries. -/
def plan3 (a b c : PlanEntry) : Vector PlanEntry 8 :=
  (((Vector.replicate 8 PlanEntry.reset).set 0 a).set 1 b).set 2 c

def vendorA0 : Vendor :=
  { poly := 0x8005, finalXor := 0, planLen := 2, plan := plan3 txidEntry sensorEntry PlanEntry.reset }

def vendorA1 : Vendor :=
  { poly := 0x8050, finalXor := 0xFFFF, planLen := 3, plan := plan3 headerEntry txidEntry sensorEntry }

def vendorA2 : Vendor := { Vendor.reset with poly := 0x8050 }

/-- CFG-A's receiver configuration. -/
def cfgA : RxConfig :=
  { syncPattern := 0xAA, syncWidth := 8, estNum := 1, estDen := 1, chMin := 1, chMax := 12
    chanVendor := 0x40
    vendors := (((Vector.replicate 4 Vendor.reset).set 0 vendorA0).set 1 vendorA1).set 2 vendorA2 }

/-- CFG-A written, before CONFIGURE. -/
def loaded : State :=
  { State.reset with
    stage0 := passStage, stage1 := passStage, stage2 := passStage, mem := passCoefs, cfg := cfgA }

/-- Program P0's end state: CFG-A after a successful CONFIGURE. -/
def paused : State := finish (configureDone loaded)

/-- P0's end state with RUN = 1. -/
def running : State := { paused with ctrl := { paused.ctrl with run := true } }

/-- Stage 1 of V-F2 and V-F3: three taps 1.0, 2.0, 3.0 and a DECIM. -/
def tapped (decim : Word) : State :=
  { paused with
    stage1 := { passStage with ntaps := 3, decim := decim }
    shift1 := [0, 0, 0]
    mem := ((passCoefs.writeWord 0x2000 0x3F800000).writeWord 0x2004 0x40000000).writeWord 0x2008 0x40400000 }

/-- The oscillator of V-F1 in stage 0, and in stage 1 its `.c` words 1.0, 0.0. -/
def tuned : State :=
  { paused with
    stage0 := { passStage with fs := 4, ftrans := 1, transEn := true, oscN := 4 }
    stage1 := { passStage with fs := 4, ftrans := 2, transEn := true, oscN := 2 }
    mem := List.foldl (fun m (c : Nat × Word) => Memory.writeWord m c.1 c.2) passCoefs
      [(0x4000, 0x3F800000), (0x4004, 0), (0x4008, 0), (0x400C, 0x3F800000), (0x4010, 0xBF800000),
        (0x4014, 0), (0x4018, 0), (0x401C, 0xBF800000), (0x6000, 0x3F800000), (0x6008, 0xBF800000)] }

/-- The operands of a command in CMD_ARG0 and CMD_ARG1. -/
def withArgs (a0 a1 : Word) (s : State) : State := { s with cmd := { s.cmd with arg0 := a0, arg1 := a1 } }

/-- A projection of the state a command leaves, if it goes on. -/
def after {α : Type} (o : Host.Outcome State Fault Refusal) (f : State → α) : Option α :=
  match o with
  | .next t => some (f t)
  | .fault _ => none
  | .refused _ => none

/-- CMD_STATUS.CODE, VALID and the two result words. -/
def report (s : State) : BitVec 4 × Bool × Word × Word := (s.cmd.code, s.cmd.valid, s.cmd.res0, s.cmd.res1)

/-! ### Commands, one step each -/

theorem test_nop_running : after (exec .nop running) report = some (0, false, 0, 0) := by decide +kernel

/-- V-X1. -/
theorem test_configure_reset_fails :
    after (exec .configure State.reset) (fun t => (t.cmd.code, t.ctrl.errCode, t.ctrl.errIndex)) =
      some (6, 1, 0) := by decide +kernel

/-- V-X7, V-X12, V-X8, V-X9 by the checks at MAX_TAPS = 1023 and MAX_OSC = 1024. -/
theorem test_checkStage :
    checkStage 1023 1024 { passStage with fs := 4, ftrans := 3, transEn := true } = some 5 ∧
      checkStage 1023 1024 { passStage with fs := 48000, ftrans := 12000, transEn := true } = none ∧
      checkStage 1023 1024 { passStage with fs := 48000, ftrans := 7, transEn := true } = some 4 ∧
      (initStage 1 { passStage with fs := 4, ftrans := 0xFFFFFFFF, transEn := true }).oscN = 4 := by
  decide +kernel

/-- V-X13, V-X16, V-X17, V-X18, V-X20. -/
theorem test_checkReceiver :
    checkReceiver { cfgA with syncWidth := 3 } = some (8, 0) ∧
      checkReceiver { cfgA with estDen := 0 } = some (9, 0) ∧
      checkReceiver { cfgA with chMin := 5, chMax := 1 } = some (10, 0) ∧
      checkReceiver (cfgA.setVendor 3 { Vendor.reset with planLen := 1 }) = some (11, 3) ∧
      checkReceiver (cfgA.setVendor 1
        { vendorA1 with plan := plan3 headerEntry txidEntry { sensorEntry with width := 9 } }) =
        some (11, 1) := by decide +kernel

/-- V-F9. -/
theorem test_pipePush :
    after (exec .pipePush (withArgs 0x40000000 0 running))
        (fun t => (t.counters.sample, t.counters.level, t.trk.cur, t.trk.slot 1, rxStateWord t.rx)) =
      some (1, 1, 1, 1, 0x00010000) := by decide +kernel

/-- V-E12. -/
theorem test_pipePush_stopped :
    after (exec .pipePush paused) (fun t => (t.cmd.code, t.counters.sample)) = some (5, 0) := by
  decide +kernel

/-- V-R1. -/
theorem test_rxPushLevel_change :
    after (exec (.rxPushLevel true) paused)
        (fun t => (t.trk.cur, t.trk.slot 1, rxStateWord t.rx, t.counters.level)) =
      some (1, 1, 0x00010000, 1) := by decide +kernel

/-- V-R2. -/
theorem test_rxPushLevel_same :
    after (exec (.rxPushLevel false) paused) (fun t => (t.trk.cur, t.trk.slot 0, rxStateWord t.rx)) =
      some (0, 1, 0) := by decide +kernel

/-- 45_control.md R351: PREV_LEVEL stays. -/
theorem test_rxAbort :
    after (exec .rxAbort { paused with rx := { paused.rx with state := 3, prevLevel := true, msgActive := true } })
        (fun t => rxStateWord t.rx) = some 0x00010000 := by decide +kernel

/-- V-F1, calls 0 and 3. -/
theorem test_oscNext :
    after (exec (.oscNext 0) tuned) (fun t => (report t, t.stage0.oscIdx)) =
        some ((0, true, 0x3F800000, 0), 1) ∧
      after (exec (.oscNext 0) { tuned with stage0 := { tuned.stage0 with oscIdx := 3 } })
          (fun t => (report t, t.stage0.oscIdx)) =
        some ((0, true, 0, 0xBF800000), 0) := by decide +kernel

/-- V-E6. -/
theorem test_oscNext_noTranslation :
    after (exec (.oscNext 0) paused) (fun t => t.cmd.code) = some 2 := by decide +kernel

/-- V-F3's third call. -/
theorem test_filtCompute_product :
    after (exec (.filtCompute 1)
        (withArgs 0x3F800000 0
          { tapped 3 with
            shift1 := [0x3F800000, 0x3F800000, 0], stage1 := { (tapped 3).stage1 with dcnt := 2 } }))
        (fun t => (report t, t.shift1, t.stage1.dcnt)) =
      some ((0, true, 0x40C00000, 0), [0x3F800000, 0x3F800000, 0x3F800000], 0) := by decide +kernel

/-- V-F4's second call. -/
theorem test_filtCompute_translation :
    after (exec (.filtCompute 0)
        (withArgs 0x3F800000 0x40000000 { tuned with stage0 := { tuned.stage0 with oscIdx := 1 } }))
        (fun t => (report t, t.stage0.oscIdx)) =
      some ((0, true, 0xC0000000, 0x3F800000), 2) := by decide +kernel

/-- V-T7: a slot saturates. -/
theorem test_trkExtend :
    after (exec .trkExtend { paused with trk := { paused.trk with slots := paused.trk.slots.set 0 0xFFFF } })
        (fun t => t.trk.slot 0) = some 0xFFFF := by decide +kernel

/-- V-T6. -/
theorem test_trkStartSymbol :
    after (exec .trkStartSymbol
        { paused with trk := { paused.trk with cur := 6, slots := paused.trk.slots.set 0 9 } })
        (fun t => (t.trk.cur, t.trk.slot 0)) = some (0, 1) := by decide +kernel

/-- V-T1: 10.0 per symbol, 4, 5, 14, 15 and 25 samples. -/
theorem test_trkCount :
    (symCount 4 10 1, symCount 5 10 1, symCount 14 10 1, symCount 15 10 1, symCount 25 10 1) =
        (0, 1, 1, 2, 2) ∧
      after (exec .trkCount
          { paused with trk := { paused.trk with avgNum := 10, slots := paused.trk.slots.set 0 15 } })
          report = some (0, true, 2, 0) := by decide +kernel

/-- V-T2: the two most recent of the slots [3, 3, 4, 3, 3, 2, 2] do not count. -/
theorem test_trkLockAvg :
    after (exec .trkLockAvg
        { paused with
          trk := { paused.trk with
            cur := 6
            slots := ((((((paused.trk.slots.set 0 3).set 1 3).set 2 4).set 3 3).set 4 3).set 5 2).set 6 2 } })
        (fun t => (t.trk.avgNum, t.trk.avgDen)) = some (16, 5) := by decide +kernel

theorem test_trkResetAvg :
    after (exec .trkResetAvg { paused with trk := { paused.trk with avgNum := 16, avgDen := 5 } })
        (fun t => (t.trk.avgNum, t.trk.avgDen)) = some (1, 1) := by decide +kernel

/-- V-M1's second level. -/
theorem test_manAdd_decoded :
    after (exec (.manAdd true) { paused with man := { paused.man with pendValid := true } })
        (fun t => (report t, t.man.acc, manStatusWord t.man)) =
      some ((0, true, 1, 1), 1, 0x100) := by decide +kernel

/-- V-M3's second level. -/
theorem test_manAdd_invalid :
    after (exec (.manAdd false) { paused with man := { paused.man with pendValid := true } })
        (fun t => (report t, manStatusWord t.man, t.counters.manErr)) =
      some ((0, false, 2, 0), 2, 0) := by decide +kernel

/-- V-M5's first pop. -/
theorem test_manPopAll :
    after (exec .manPopAll { paused with man := { pendLevel := true, pendValid := true, cnt := 3, acc := 5 } })
        (fun t => (report t, manStatusWord t.man)) = some ((0, true, 5, 3), 3) := by decide +kernel

/-- V-M10. -/
theorem test_manSize :
    after (exec .manSize { paused with man := { paused.man with cnt := 3, acc := 5 } })
        (fun t => (report t, t.man.cnt)) = some ((0, true, 3, 0), 3) := by decide +kernel

/-- V-M9. -/
theorem test_manReset :
    after (exec .manReset { paused with man := { paused.man with pendLevel := true, pendValid := true } })
        (fun t => (manStatusWord t.man, t.man.acc)) = some (0, 0) := by decide +kernel

/-- V-C8: bits at and above N are ignored. -/
theorem test_crcPush :
    after (exec (.crcPush 4 true)
        (withArgs 0xFFFFFFF8 0 { paused with crc := { paused.crc with poly := 0x8005 } }))
        (fun t => (t.crc.reg, t.crc.acc)) = some (8, 8) := by decide +kernel

/-- V-C1 and V-C6: the finalized value, with the register left as it was. -/
theorem test_crcFinalize :
    after (exec .crcFinalize { paused with crc := { reg := 8, poly := 0x8005, fxor := 0, acc := 8 } })
        (fun t => (report t, t.crc.reg)) = some ((0, true, 0x8033, 0), 8) ∧
      after (exec .crcFinalize { paused with crc := { reg := 1, poly := 0x8005, fxor := 0, acc := 1 } })
        report = some (0, true, 0x8005, 0) := by decide +kernel

/-- V-C11: the frame of program P2. -/
theorem test_crc_frame :
    ((({ CrcEngine.reset with poly := 0x8005 }.push 0xA 4 true).push 0x5A 8 true).push 0x81 8 true).finalize =
      0x5F8B := by decide +kernel

/-- V-C13. -/
theorem test_crcReset :
    after (exec .crcReset { paused with crc := { reg := 8, poly := 0x8005, fxor := 1, acc := 8 } })
        (fun t => t.crc) = some { reg := 0, poly := 0x8005, fxor := 1, acc := 0 } := by decide +kernel

/-- V-E15 and V-C14. -/
theorem test_crcSelect :
    after (exec (.crcSelect 3) { paused with crc := { reg := 8, poly := 1, fxor := 1, acc := 8 } })
        (fun t => t.crc) = some { reg := 8, poly := 0, fxor := 0, acc := 8 } ∧
      after (exec (.crcSelect 1) paused) (fun t => (t.crc.poly, t.crc.fxor)) = some (0x8050, 0xFFFF) := by
  decide +kernel

/-! ### Bus, reset and the step -/

/-- The word a host write of `word` to CMD leaves in CMD_STATUS, one step from `s`. -/
def statusAfter (word : Word) (s : State) : Option Word :=
  after (step (s.withFetchWord 32 word.toNat)) (fun t => cmdStatusWord t.cmd)

/-- V-E1, V-E2, V-E5, V-E7. -/
theorem test_cmd_rejected :
    statusAfter 0x05000000 paused = some 0x05000001 ∧ statusAfter 0x05FFFFFF paused = some 0x05000001 ∧
      statusAfter 0x10030000 paused = some 0x10000002 ∧ statusAfter 0x40000121 paused = some 0x40000002 := by
  decide +kernel

/-- V-E9, V-E10, V-E11, V-E13, V-E14. -/
theorem test_cmd_modes :
    statusAfter 0x22000000 running = some 0x22000003 ∧ statusAfter 0x22000001 running = some 0x22000002 ∧
      statusAfter 0x32000000 State.reset = some 0x32000004 ∧
      statusAfter 0x01000000 running = some 0x01000003 ∧ statusAfter 0x00000000 running = some 0 := by
  decide +kernel

/-- 10_state.md R31 and 20_memory.md R104: ID reads its constant, a misaligned and an unmapped read are
refused. -/
theorem test_bus_read :
    (busRead 0x000 State.reset).busOut = some (.read .okay 0x53450001) ∧
      (busRead 0x002 State.reset).busOut = some (.read .error 0) ∧
      (busRead 0x018 State.reset).busOut = some (.read .error 0) := by decide +kernel

/-- 20_memory.md R105: a CFG write is refused while RUN = 1, and clears CONFIGURED while RUN = 0. -/
theorem test_cfg_write :
    after (busAccess (.write 0x204 0x48 0xF) running) (fun t => (t.busOut, t.cfg.syncWidth)) =
        some (some (.write .error), 8) ∧
      after (busAccess (.write 0x204 0x48 0xF) paused)
          (fun t => (t.busOut, t.cfg.syncWidth, t.ctrl.configured)) =
        some (some (.write .okay), 8, false) := by decide +kernel

/-- 60_exceptions.md R380: writing ones clears exactly those event bits. -/
theorem test_evt_clear :
    after (busAccess (.write 0x010 0x81 0xF) { paused with evt := { status := 0xE1, enable := 1 } })
        (fun t => t.evt) = some { status := 0x60, enable := 1 } := by decide +kernel

/-- 45_control.md R343: RUN needs CONFIGURED. -/
theorem test_ctrl_run :
    after (busAccess (.write 0x004 1 0xF) State.reset) (fun t => t.ctrl.run) = some false ∧
      after (busAccess (.write 0x004 1 0xF) paused) (fun t => t.ctrl.run) = some true := by decide +kernel

/-- 70_reset_and_hazards.md R410. -/
theorem test_reset_step :
    step { running with turns := [.reset] } =
      .next { State.reset with epoch := 1, configCount := 1 } := rfl

theorem test_reset_memory_canonical : State.reset.mem.wf := by decide

theorem test_loaded_memory_canonical : loaded.mem.wf := by decide +kernel

/-! ### Witnesses: states that meet the hypotheses of the statements, at the ends of their ranges -/

theorem test_paused_paused : paused.Paused := by decide

/-- A pass-through stage after P0's CONFIGURE. -/
def passedStage : StageRegs := initStage 1 passStage

theorem test_stage_passes : checkStage Config.maxTaps Config.maxOsc passedStage = none := by
  have h := Config.one_le_maxTaps
  simp [checkStage, passedStage, initStage, passStage, StageRegs.reset, Nat.not_lt.2 h]

theorem test_paused_checks : checkConfig Config.maxTaps Config.maxOsc paused = none := by
  have h : ∀ r, r = passedStage → checkStage Config.maxTaps Config.maxOsc r = none := by
    rintro r rfl
    exact test_stage_passes
  have hr : checkReceiver paused.cfg = none := by decide +kernel
  unfold checkConfig checkStages
  rw [h paused.stage0 (by decide +kernel), h paused.stage1 (by decide +kernel),
    h paused.stage2 (by decide +kernel)]
  exact hr

/-- A pass-through stage has one table word, its coefficient. -/
theorem test_pass_tables (s : State) (sid : StageId) (h1 : (s.stage sid).ntaps = 1)
    (h2 : (s.stage sid).transEn = false) (h3 : (s.mem.readWord (coefAddr sid 0)).isSome) :
    s.StageTablesWritten sid := by
  constructor
  · intro t ht
    have : t = 0 := by
      have h : tapCount (s.stage sid) = 1 := by simp [tapCount, h1]
      omega
    rw [this]
    exact h3
  · intro h
    rw [h2] at h
    cases h

theorem test_paused_tables : paused.TablesWritten := by
  intro sid
  cases sid <;> exact test_pass_tables paused _ (by decide +kernel) (by decide +kernel) (by decide +kernel)

theorem test_running_tables : running.TablesWritten := by
  intro sid
  cases sid <;> exact test_pass_tables running _ (by decide +kernel) (by decide +kernel) (by decide +kernel)

theorem test_tapped_tables (d : Word) : (tapped d).StageTablesWritten .s1 := by
  constructor
  · intro t ht
    have h : t < 3 := ht
    have hm : ∀ t, t < 3 → (((tapped 0).mem).readWord (coefAddr .s1 t)).isSome := by decide +kernel
    exact hm t h
  · intro h
    cases h

theorem test_tuned_tables : tuned.StageTablesWritten .s0 ∧ tuned.StageTablesWritten .s1 := by
  refine ⟨⟨?_, ?_⟩, ⟨?_, ?_⟩⟩
  · decide +kernel
  · intro _ k hk l _
    have hm : ∀ k, k < 4 → (tuned.mem.readWord (oscAddr .s0 k .first)).isSome ∧
        (tuned.mem.readWord (oscAddr .s0 k .second)).isSome := by decide +kernel
    cases l
    · exact (hm k hk).1
    · exact (hm k hk).2
  · decide +kernel
  · intro _ k hk l hl
    have hm : ∀ k, k < 2 → (tuned.mem.readWord (oscAddr .s1 k .first)).isSome := by decide +kernel
    rcases hl with rfl | h
    · exact hm k hk
    · cases h

/-- A slot of the cleared tracker. -/
theorem test_cleared_slots (i : Nat) : paused.trk.slot i = 0 := by
  have h : ∀ i, i < 31 → paused.trk.slot i = 0 := by decide +kernel
  by_cases hi : i < 31
  · exact h i hi
  · simp [Tracker.slot, Vector.getD, Nat.le_of_not_lt hi]

theorem test_paused_consistent : paused.Consistent where
  run := by decide
  fatal := by decide
  state := by decide
  manCnt := by decide
  idle := by decide
  active := by decide
  devid := by decide
  slots := fun i _ => test_cleared_slots i
  live := fun sid => by cases sid <;> decide +kernel
  mem := by decide +kernel
  configured := fun _ =>
    { checked := test_paused_checks
      stages := fun sid => by cases sid <;> exact
        ⟨by decide +kernel, by decide +kernel, by decide +kernel, by decide +kernel⟩
      shift0 := by decide +kernel
      shift1 := by decide +kernel
      shift2 := by decide +kernel
      window := by decide +kernel
      cur := by decide +kernel
      avgDen := by decide +kernel
      syncShift := by decide +kernel
      planKind := by decide +kernel }

theorem witness_DecodeOfEncodeIsTheCommand : (Instr.crcPush 32 true).WellFormed = true := by decide

theorem witness_EncodeOfDecodeIsTheWord : decode 0x40000120 = .ok (.crcPush 32 true) := by decide

theorem witness_RejectionIsNamedByOpcodeFirst :
    ((0x30000002 : Word).extractLsb' 24 8).toNat ∈ opcodes ∧
      ∀ i : Instr, i.WellFormed = true → encode i ≠ 0x30000002 := by
  refine ⟨by decide, ?_⟩
  intro i _
  cases i with
  | rxPushLevel l => cases l <;> decide
  | manAdd l => cases l <;> decide
  | oscNext sel => revert sel; decide
  | filtCompute sel => revert sel; decide
  | crcSelect sel => revert sel; decide
  | crcPush n acc => revert n acc; decide
  | _ => decide

/-- P0's end state with one CMD write and the host's turn to come. -/
def offered (w : Word) : State := { paused with turns := [.host], bus := [.write 0x020 w 0xF] }

theorem witness_StepRunsTheDecodedCommand :
    (offered 0x30000001).turns = .host :: [] ∧ (offered 0x30000001).bus = .write 0x020 0x30000001 0xF :: [] ∧
      decode 0x30000001 = .ok (.manAdd true) := by decide

theorem witness_RejectedWordLeavesOnlyItsRecord :
    ((offered 0x05000000).turns = .host :: [] ∧
        (offered 0x05000000).bus = .write 0x020 0x05000000 0xF :: [] ∧
        decode 0x05000000 = .error .badOpcode) ∧
      (offered 0x40000121).turns = .host :: [] ∧
        (offered 0x40000121).bus = .write 0x020 0x40000121 0xF :: [] ∧
        decode 0x40000121 = .error .badOperand := by decide

theorem witness_ChecksTurnCommandsAwayInOrder :
    (Instr.crcPush 33 true).WellFormed = false ∧
      (NeedsPause (.crcPush 32 true) ∧ (Instr.crcPush 32 true).WellFormed = true ∧ running.ctrl.run = true) ∧
      (NeedsPause .trkCount ∧ Instr.trkCount.WellFormed = true ∧ State.reset.ctrl.run = false ∧
        State.reset.ctrl.configured = false) ∧
      paused.ctrl.run = false ∧
      (paused.Paused ∧ (2 : BitVec 2).toNat = StageId.s2.num ∧ (paused.stage .s2).transEn = false) := by
  unfold NeedsPause
  decide

theorem witness_ConfigureInitialisesOrReportsTheFailure :
    (paused.ctrl.run = false ∧ checkConfig Config.maxTaps Config.maxOsc paused = none) ∧
      State.reset.ctrl.run = false ∧ checkConfig Config.maxTaps Config.maxOsc State.reset = some (1, 0) :=
  ⟨⟨by decide, test_paused_checks⟩, rfl, rfl⟩

theorem witness_OscillatorPeriodIsTheSmallest : passStage.fs ≠ 0 := by decide

theorem witness_RxAbortReturnsToSync : paused.Paused := test_paused_paused

/-- Whether a filter stage goes on, and whether it gives an output. -/
def gives {α : Type} (r : Except Fault (State × Option α)) : Option Bool :=
  match r with
  | .ok (_, out) => some out.isSome
  | .error _ => none

/-- P0's end state with RUN = 1 and the decimations of stages 0 and 1. -/
def decimating (d0 d1 : Word) : State :=
  { running with
    stage0 := { running.stage0 with decim := d0 }, stage1 := { running.stage1 with decim := d1 } }

theorem witness_PipePushCompletesAndRunsTheStagesInOrder :
    (running.ctrl.run = true ∧ running.TablesWritten ∧
        ∀ sid, (running.stage sid).transEn = true →
          (running.stage sid).oscIdx.toNat < (running.stage sid).oscN.toNat) ∧
      gives (filterStage0 { re := 0, im := 0 } (decimating 2 1)) = some false ∧
      gives (filterStage0 { re := 0, im := 0 } (decimating 1 2)) = some true ∧
      gives (filterStage1 0 (decimating 1 2)) = some false ∧
      gives (filterStage1 0 running) = some true ∧
      gives (filterStage2 0 running) = some true :=
  ⟨⟨by decide, test_running_tables, fun sid h => by cases sid <;> cases h⟩, by decide +kernel,
    by decide +kernel, by decide +kernel, by decide +kernel, by decide +kernel⟩

theorem witness_PortSampleEqualsPipePush :
    let x : C32 := { re := 0x40000000, im := 0 }
    let stopped := { paused with turns := [.producer], samples := [x] }
    let going := { running with turns := [.producer], samples := [x] }
    (stopped.turns = .producer :: [] ∧ stopped.samples = x :: [] ∧ stopped.ctrl.run = false) ∧
      going.turns = .producer :: [] ∧ going.samples = x :: [] ∧ going.ctrl.run = true := by decide

theorem witness_OscNextReturnsTheEntryAndAdvances :
    let last := { tuned with stage0 := { tuned.stage0 with oscIdx := 3 } }
    (last.Paused ∧ (0 : BitVec 2).toNat = StageId.s0.num ∧ (last.stage .s0).transEn = true ∧
        last.mem.readWord (oscAddr .s0 (last.stage .s0).oscIdx.toNat .first) = some 0 ∧
        last.mem.readWord (oscAddr .s0 (last.stage .s0).oscIdx.toNat .second) = some 0xBF800000) ∧
      tuned.Paused ∧ (1 : BitVec 2).toNat = StageId.s1.num ∧ (tuned.stage .s1).transEn = true ∧
        tuned.mem.readWord (oscAddr .s1 (tuned.stage .s1).oscIdx.toNat .first) = some 0x3F800000 := by
  decide +kernel

theorem witness_OscNextSequenceIsPeriodic :
    (tuned.Paused ∧ (0 : BitVec 2).toNat = StageId.s0.num ∧ (tuned.stage .s0).transEn = true ∧
        (tuned.stage .s0).oscIdx = 0 ∧ (tuned.stage .s0).oscN ≠ 0) ∧ tuned.StageTablesWritten .s0 :=
  ⟨by decide, test_tuned_tables.1⟩

theorem witness_FiltComputeOnTheComplexStage :
    (tuned.Paused ∧ 1 ≤ tuned.stage0.ntaps.toNat ∧ tuned.stage0.ntaps.toNat ≤ tuned.shift0.length ∧
        (tuned.stage0.transEn = true → tuned.stage0.oscIdx.toNat < tuned.stage0.oscN.toNat)) ∧
      tuned.StageTablesWritten .s0 :=
  ⟨by decide +kernel, test_tuned_tables.1⟩

theorem witness_FiltComputeOnTheRealStages :
    ((tapped 1).Paused ∧ 1 ≤ (tapped 1).stage1.ntaps.toNat ∧
        (tapped 1).stage1.ntaps.toNat ≤ (tapped 1).shift1.length ∧
        ((tapped 1).stage1.transEn = true → (tapped 1).stage1.oscIdx.toNat < (tapped 1).stage1.oscN.toNat)) ∧
      (tapped 1).StageTablesWritten .s1 ∧ paused.Paused ∧ 1 ≤ paused.stage2.ntaps.toNat ∧
      paused.stage2.ntaps.toNat ≤ paused.shift2.length ∧ paused.stage2.transEn = false ∧
      paused.StageTablesWritten .s2 :=
  ⟨by decide +kernel, test_tapped_tables 1, test_paused_paused, by decide +kernel, by decide +kernel,
    by decide +kernel, test_paused_tables .s2⟩

theorem witness_DecimationOutputsOnEveryNthCall :
    (let s := { tuned with stage0 := { tuned.stage0 with decim := 4 } };
      s.Paused ∧ (0 : BitVec 2).toNat = StageId.s0.num ∧ (s.stage .s0).dcnt = 0 ∧ (s.stage .s0).decim ≠ 0 ∧
        (s.stage .s0).oscIdx.toNat < (s.stage .s0).oscN.toNat) ∧
      ({ tuned with stage0 := { tuned.stage0 with decim := 4 } } : State).StageTablesWritten .s0 ∧
      ((tapped 4).Paused ∧ (1 : BitVec 2).toNat = StageId.s1.num ∧ ((tapped 4).stage .s1).dcnt = 0 ∧
        ((tapped 4).stage .s1).decim ≠ 0 ∧ ((tapped 4).stage .s1).transEn = false) ∧
      (tapped 4).StageTablesWritten .s1 :=
  ⟨by decide +kernel, test_tuned_tables.1, by decide +kernel, test_tapped_tables 4⟩

theorem witness_PassThroughStageIsTheIdentity :
    paused.Paused ∧ (PassThrough paused.stage0 ∧ paused.mem.readWord (coefAddr .s0 0) = some 0x3F800000) ∧
      (PassThrough paused.stage1 ∧ paused.mem.readWord (coefAddr .s1 0) = some 0x3F800000) ∧
      PassThrough paused.stage2 ∧ paused.mem.readWord (coefAddr .s2 0) = some 0x3F800000 := by
  unfold PassThrough
  decide +kernel

theorem witness_NaNPropagatesAndSlicesLow : isNaN 0x7F800001 = true ∧ isNaN 0xFFFFFFFF = true := by decide

/-- P0's end state with no table word written. -/
def untabled : State := { paused with mem := [] }

/-- The oscillator and tables of `tuned` in stages 0 and 1, with TRANS_EN and one RAM word missing. -/
def tunedWithout (a : Nat) : State := { tuned with mem := tuned.mem.filter fun c => c.1 / 4 ≠ a / 4 }

theorem test_tuned_missing_lanes :
    OscUnwritten (tunedWithout 0x4000) .s0 .first ∧ OscUnwritten (tunedWithout 0x4004) .s0 .second ∧
      OscUnwritten (tunedWithout 0x6000) .s1 .first := by
  refine ⟨⟨by decide +kernel, fun h => ?_⟩, ⟨by decide +kernel, fun _ => by decide +kernel⟩,
    ⟨by decide +kernel, fun h => ?_⟩⟩ <;> cases h

theorem test_untabled_reads (sid : StageId) : FirstUnwritten untabled sid (.unwrittenCoef sid 0) := by
  refine .inr ⟨0, rfl, fun h => ?_, ?_, ?_, ?_, fun u hu => absurd hu (Nat.not_lt_zero u)⟩
  · cases sid <;> cases h
  all_goals cases sid <;> decide +kernel

/-- Stage 1 of `tapped` with its last coefficient missing, at an output call. -/
def untapped : State :=
  { tapped 1 with mem := (tapped 1).mem.filter fun c => c.1 / 4 ≠ 0x2008 / 4 }

theorem test_untapped_reads : FirstUnwritten untapped .s1 (.unwrittenCoef .s1 2) := by
  refine .inr ⟨2, rfl, fun h => ?_, by decide +kernel, by decide +kernel, by decide +kernel, ?_⟩
  · cases h
  · intro u hu
    have hm : ∀ u, u < 2 → (untapped.mem.readWord (coefAddr .s1 u)).isSome := by decide +kernel
    exact hm u hu

theorem witness_UnwrittenTableWordFaultsTheDatapathOnly :
    ((tunedWithout 0x4004).Paused ∧ ((tunedWithout 0x4004).stage .s0).transEn = true ∧
        OscUnwritten (tunedWithout 0x4004) .s0 .second ∧
        FirstUnwritten (tunedWithout 0x4004) .s0 (.unwrittenOsc .s0 0 .second)) ∧
      (untapped.Paused ∧ FirstUnwritten untapped .s1 (.unwrittenCoef .s1 2)) ∧
      (let s := { untabled with ctrl := { untabled.ctrl with run := true } };
        s.ctrl.run = true ∧ FirstUnwritten s .s0 (.unwrittenCoef .s0 0) ∧
          FirstUnwritten s .s1 (.unwrittenCoef .s1 0) ∧ FirstUnwritten s .s2 (.unwrittenCoef .s2 0)) ∧
      gives (filterStage0 { re := 0, im := 0 } running) = some true ∧
      (let s := { untabled with turns := [.host], bus := [.read 0x1000] };
        s.turns = .host :: [] ∧ s.bus = .read 0x1000 :: []) := by
  refine ⟨⟨by decide +kernel, by decide +kernel, test_tuned_missing_lanes.2.1,
    .inl ⟨.second, by decide +kernel, by decide +kernel, test_tuned_missing_lanes.2.1⟩⟩,
    ⟨by decide +kernel, test_untapped_reads⟩,
    ⟨rfl, test_untabled_reads .s0, test_untabled_reads .s1, test_untabled_reads .s2⟩,
    by decide +kernel, by decide +kernel⟩

theorem witness_TrkExtendCountsTheInProgressSlot :
    let s := { paused with trk := { paused.trk with cur := 30, window := 31 } }
    s.Paused ∧ s.trk.cur.toNat < 31 := by decide

theorem witness_TrkStartSymbolOpensTheNextSlot : paused.Paused ∧ 1 ≤ paused.trk.width := by decide +kernel

theorem witness_TrkCountRoundsTiesUpAndClamps :
    (paused.Paused ∧ paused.trk.avgNum ≠ 0) ∧
      let s := { paused with trk := { paused.trk with avgNum := 0 } }
      s.Paused ∧ s.trk.avgNum = 0 := by decide +kernel

theorem witness_TrkLockAvgAveragesAllButTheTwoMostRecent :
    let s := { paused with trk := { paused.trk with cur := 2, window := 3 } }
    s.Paused ∧ 3 ≤ s.trk.width ∧ s.trk.cur.toNat < s.trk.width := by decide

theorem witness_TrkResetAvgRestoresTheEstimate : paused.Paused := test_paused_paused

theorem witness_RunUnderHalfASymbolIsDropped :
    let s := { paused with trk := { paused.trk with avgNum := 10, slots := paused.trk.slots.set 0 4 } }
    true ≠ s.rx.prevLevel ∧
      2 * (s.trk.slot s.trk.cur.toNat).toNat * s.trk.avgDen.toNat < s.trk.avgNum.toNat := by decide +kernel

theorem witness_ManAddBuffersDecodesOrRejects :
    (paused.Paused ∧ paused.man.pendValid = false) ∧
      let s := { paused with man := { paused.man with pendLevel := false, pendValid := true, cnt := 32 } }
      s.Paused ∧ s.man.pendValid = true ∧ s.man.pendLevel ≠ true ∧ s.man.pendLevel = false := by decide

theorem witness_ManPopAllSizeAndResetHaveTheirResults : paused.Paused := test_paused_paused

theorem witness_ManchesterRoundTripReturnsTheBit : Manchester.reset.pendValid = false := rfl

theorem witness_ManchesterKeepsTheLast32Bits :
    let m : Manchester := { pendLevel := true, pendValid := false, cnt := 32, acc := 0xFFFFFFFF }
    m.pendValid = false ∧ m.cnt.toNat ≤ 32 := by decide

theorem witness_CrcPushShiftsTheBitsMsbFirst : paused.Paused ∧ (32 : BitVec 6).toNat ≤ 32 := by decide

theorem witness_CrcFinalizeReturnsTheFlushedRegisterIdempotently : paused.Paused := test_paused_paused

theorem witness_CrcFinalizeIsThePolynomialRemainder :
    ({ CrcEngine.reset with poly := 0x8005 } : CrcEngine).reg = 0 := rfl

theorem witness_CrcResetAndSelectChangeTheirHalves : paused.Paused := test_paused_paused

theorem witness_RxPushLevelRegistersTheLevel :
    paused.Paused ∧ false = paused.rx.prevLevel ∧ true ≠ paused.rx.prevLevel := by decide

theorem witness_SyncMatchLocksTheAverageAndOpensTheFrame :
    let s := { paused with rx := { paused.rx with syncShift := 0x55 } }
    let shifted := fun b : Level =>
      BitVec.ofNat 32 ((2 * s.rx.syncShift.toNat + b.toNat) % 2 ^ s.cfg.syncWidth.toNat)
    s.rx.state = 0 ∧ s.cfg.syncWidth.toNat ≤ 32 ∧
      (shifted true).toNat ≠ s.cfg.syncPattern.toNat % 2 ^ s.cfg.syncWidth.toNat ∧
      (shifted false).toNat = s.cfg.syncPattern.toNat % 2 ^ s.cfg.syncWidth.toNat := by decide +kernel

theorem witness_FieldLevelsCompleteTheFieldWithItsValue :
    let s := { paused with rx := { paused.rx with state := 5 } }
    1 ≤ s.rx.state.toNat ∧ s.rx.state.toNat ≤ 5 ∧ s.man.pendValid = false ∧ s.man.cnt = 0 ∧ s.man.acc = 0 ∧
      1 ≤ fieldWidth s ∧ fieldWidth s ≤ 32 ∧ 0xFFFF < 2 ^ fieldWidth s := by decide +kernel

theorem witness_CrcFieldEmitsExactlyOnAMatch :
    let s := { paused with rx := { paused.rx with state := 5 }, crc := { paused.crc with fxor := 0x5F8B } }
    s.rx.state = 5 ∧ (0x5F8B : Word).setWidth 16 = s.crc.finalize ∧
      (0x5F8A : Word).setWidth 16 ≠ s.crc.finalize := by decide +kernel

/-- P0's end state with the receiver in a field state, its message of the given vendor. -/
def inField (state : BitVec 3) (vendor : BitVec 2) : State :=
  { paused with rx := { paused.rx with state := state }, cur := { paused.cur with vendor := vendor } }

theorem witness_FieldArmDropsOrFeedsALevelAndCompletesAtTheWidth :
    (let s := { inField 1 0 with man := { paused.man with pendLevel := true, pendValid := true } };
      1 ≤ s.rx.state.toNat ∧ s.rx.state.toNat ≤ 4 ∧ s.rx.planIdx.toNat < 8 ∧ s.man.pendValid = true ∧
        s.man.pendLevel = true ∧ s.man.pendLevel ≠ false) ∧
      (let s := { inField 5 0 with man := { paused.man with cnt := 16 } };
        s.rx.state.toNat = 5 ∧ s.man.pendValid = false ∧ ¬ s.man.cnt.toNat < 16) := by decide +kernel

theorem witness_ChannelOpensTheMessageOrEndsTheFrame :
    let s := inField 1 0
    s.rx.state = 1 ∧ s.cfg.chMin.toNat ≤ 1 ∧ 12 ≤ s.cfg.chMax.toNat ∧ 0 < s.cfg.chMin.toNat ∧
      s.cfg.chMax.toNat < 13 := by decide +kernel

theorem witness_PlanFieldsAccumulateAndAdvance :
    (let s := inField 2 1;
      (0xF : Word).toNat < 2 ^ 4 ∧ s.rx.planIdx.toNat < 8 ∧
        (s.cfg.vendor s.cur.vendor).planLen.toNat ≤ 8 ∧ s.rx.state = 2) ∧
      (let s := inField 3 0;
        (0 : Word).toNat < 2 ^ 8 ∧ s.rx.planIdx.toNat < 8 ∧
          (s.cfg.vendor s.cur.vendor).planLen.toNat ≤ 8 ∧ s.rx.state = 3 ∧
          ((s.cfg.vendor s.cur.vendor).plan.getD s.rx.planIdx.toNat PlanEntry.reset).zchk = true ∧
          s.cur.txid = 0) ∧
      (let s := inField 4 0;
        (0xFF : Word).toNat < 2 ^ 8 ∧ s.rx.planIdx.toNat < 8 ∧
          (s.cfg.vendor s.cur.vendor).planLen.toNat ≤ 8 ∧ s.rx.state = 4) := by decide +kernel

theorem witness_AStepEmitsAtMostOneMessage : Completes (step paused) := ⟨_, rfl⟩

theorem witness_UnreachableStateTakesTheFatalAction :
    5 < ({ paused with rx := { paused.rx with state := 6 } } : State).rx.state.toNat := by decide

theorem witness_EventBitsAreSticky :
    let s := { paused with
      evt := { status := 0x80, enable := 0 }, turns := [.host], bus := [.write 0x010 0x80 0xF] }
    ∃ t, step s = .next t ∧ s.evt.status.getLsbD 7 = true ∧ t.evt.status.getLsbD 7 = false :=
  ⟨_, rfl, by decide, by decide +kernel⟩

theorem witness_RefusedAccessChangesNothing :
    (∃ t, busAccess (.read 0x002) paused = .next t ∧ t.busOut = some (.read .error 0)) ∧
      ∃ t, busAccess (.write 0x024 1 0x7) paused = .next t ∧ t.busOut = some (.write .error) :=
  ⟨⟨_, rfl, by decide +kernel⟩, ⟨_, rfl, by decide +kernel⟩⟩

theorem witness_AccessesOutsideTheMapAndPartialWritesAreRefused :
    (0x003 : Addr).toNat % 4 ≠ 0 ∧ (0x7 : BitVec 4) ≠ 0xF ∧ regAddress (.ro .cmdStatus) = (0x034 : Addr).toNat ∧
      ∀ r, regAddress r = (0x018 : Addr).toNat → ¬ regExists r := by
  refine ⟨by decide, by decide, rfl, fun r h => ?_⟩
  exfalso
  rcases r with r | r | r <;> cases r <;> simp [regAddress, coefAddr, oscAddr, shiftAddr] at h <;>
    first
      | omega
      | (rename_i c; cases c <;> simp at h)

theorem witness_AccessesHaveTheirLayoutsAndSideEffects :
    regAt 0x51C = some (.ro (.counter .manErr)) ∧ registerValue paused (.ro (.trkSlot 30)) = some 0 ∧
      registerValue paused (.ro (.shift .s0 0 .second)) = some 0 ∧
      registerValue paused (.cfg (.coef .s1 0)) = some 0x3F800000 := by decide +kernel

theorem witness_CfgWriteStoresItsBitsAndUnconfigures :
    regAt 0x204 = some (.cfg .syncWidth) ∧ running.ctrl.run = true ∧ paused.ctrl.run = false ∧
      regAt 0x200 = some (.cfg .syncPattern) ∧ (0x200 : Addr) ≠ 0x204 := by decide

theorem witness_ShiftWordsBeyondNtapsReadTheSameUntilWritten :
    paused.Consistent ∧ (∃ t, step paused = .next t ∧ t.epoch = paused.epoch ∧ (t.stage .s0).shiftLive ≤ 1) ∧
      (paused.stage .s0).shiftLive ≤ 1 :=
  ⟨test_paused_consistent, ⟨_, rfl, rfl, by decide +kernel⟩, by decide +kernel⟩

theorem witness_ResetsRestoreTheResetValuesAndCtrlSetsALegalRun :
    regAt 0x51C = some (.ro (.counter .manErr)) ∧ regAt 0 = some (.ro .id) ∧
      ({ running with turns := [.reset] } : State).turns = .reset :: [] ∧ (3 : Word).getLsbD 1 = true ∧
      (1 : Word).getLsbD 1 = false := by decide

theorem witness_StepKeepsConsistency : paused.Consistent ∧ Completes (step paused) :=
  ⟨test_paused_consistent, _, rfl⟩

theorem witness_ConfiguredStepsKeepTheConfiguration :
    ∃ t, step paused = .next t ∧ t.ctrl.configured = true := ⟨_, rfl, by decide⟩

theorem witness_StepKeepsMemoryCanonical : paused.mem.wf ∧ Completes (step paused) :=
  ⟨by decide +kernel, _, rfl⟩

theorem witness_OnlyAnUnwrittenTableWordStopsTheBlock :
    step { untabled with turns := [.host], bus := [.write 0x020 0x11010000 0xF] } =
        .fault (.unwrittenCoef .s1 0) ∧
      step { tuned with mem := [], turns := [.host], bus := [.write 0x020 0x10010000 0xF] } =
        .fault (.unwrittenOsc .s1 0 .first) := ⟨rfl, rfl⟩

theorem witness_ConsistentBlockWithTablesAlwaysGoesOn : paused.Consistent ∧ paused.TablesWritten :=
  ⟨test_paused_consistent, test_paused_tables⟩

end Sys2Proof.Tests
end

