-- ==== Sys2Proof/Proofs/Scope.lean ====
section
/-! PROOFS. The arithmetic on NaN operands (00_scope.md R16), and the slicing of a NaN (40_filter.md R185). -/

namespace Sys2Proof.Proofs

open Sys2Proof Sys2Proof.Machine

/-! ### Turning the sign, as `fsub` does with its second operand -/

@[simp] theorem expField_xor_signBit (a : F32) : expField (a ^^^ 0x80000000) = expField a := by
  have hsign : (0x80000000 : F32).extractLsb' 23 8 = 0 := by decide
  rw [expField, BitVec.extractLsb'_xor, hsign, BitVec.ofNat_eq_ofNat, BitVec.xor_zero, expField]

@[simp] theorem fracField_xor_signBit (a : F32) : fracField (a ^^^ 0x80000000) = fracField a := by
  have hsign : (0x80000000 : F32).extractLsb' 0 23 = 0 := by decide
  rw [fracField, BitVec.extractLsb'_xor, hsign, BitVec.ofNat_eq_ofNat, BitVec.xor_zero, fracField]

/-- Whether a pattern is a NaN does not depend on its sign (R16). -/
@[simp] theorem isNaN_xor_signBit (a : F32) : isNaN (a ^^^ 0x80000000) = isNaN a := by
  rw [isNaN, expField_xor_signBit, fracField_xor_signBit, isNaN]

/-! ### Each operation on a NaN operand -/

theorem isNaN_fadd_of_nan {a b : F32} (h : isNaN a = true ∨ isNaN b = true) : isNaN (fadd a b) = true := by
  rw [fadd, addCore_of_nan h, isNaN_orNaN_none]

theorem isNaN_fsub_of_nan {a b : F32} (h : isNaN a = true ∨ isNaN b = true) : isNaN (fsub a b) = true := by
  have hturned : isNaN a = true ∨ isNaN (b ^^^ 0x80000000) = true := by rwa [isNaN_xor_signBit]
  rw [fsub, addCore_of_nan hturned, isNaN_orNaN_none]

theorem isNaN_fmul_of_nan {a b : F32} (h : isNaN a = true ∨ isNaN b = true) : isNaN (fmul a b) = true := by
  rw [fmul, mulCore_of_nan h, isNaN_orNaN_none]

theorem isNaN_fsqrt_of_nan {a : F32} (h : isNaN a = true) : isNaN (fsqrt a) = true := by
  rw [fsqrt, sqrtCore_of_nan h, isNaN_orNaN_none]

theorem slice_of_nan {a : F32} (h : isNaN a = true) : slice a = false := by
  rw [slice, h, Bool.not_true, Bool.false_and]

/-- Settles O21: a NaN operand leaves each operation without a number, and what stands for no number is a NaN. -/
theorem naNPropagatesAndSlicesLow : Obligations.NaNPropagatesAndSlicesLow :=
  ⟨fun _ _ h => ⟨isNaN_fadd_of_nan h, isNaN_fsub_of_nan h, isNaN_fmul_of_nan h⟩,
    fun _ => isNaN_fsqrt_of_nan, fun _ => slice_of_nan⟩

end Sys2Proof.Proofs
end

section
/-! PROOFS. Where the datapath meets an unwritten table word (10_state.md R60, 70_reset_and_hazards.md R412):
the fault it stops with, and that nothing else stops the block. -/

namespace Sys2Proof.Proofs

open Sys2Proof Sys2Proof.Machine Sys2Proof.Claims

/-! ### One FilterCompute over an unwritten word -/

section
variable {α : Type} {ops : SampleOps α} {draw : Nat → α} {mem : Memory} {sid : StageId}

theorem tapProduct_unwritten {sh : List α} {t : Nat} (h : mem.readWord (coefAddr sid t) = none) :
    tapProduct ops draw mem sid sh t = .error (.unwrittenCoef sid t) := by simp [tapProduct, h]

theorem tapProduct_written {sh : List α} {t : Nat} (h : (mem.readWord (coefAddr sid t)).isSome) :
    ∃ p, tapProduct ops draw mem sid sh t = .ok p := by
  obtain ⟨c, hc⟩ := Option.isSome_iff_exists.1 h
  exact ⟨_, by rw [tapProduct, hc]⟩

/-- The taps are read in ascending order, so the first unwritten one is the one the sum stops at (R184). -/
theorem accumulateTaps_stops_at_first {sh : List α} {u : Nat} (hu : mem.readWord (coefAddr sid u) = none)
    (hbefore : ∀ v, v < u → (mem.readWord (coefAddr sid v)).isSome) (k t : Nat) (acc : α) (htu : t ≤ u)
    (hk : u < t + k) : accumulateTaps ops draw mem sid sh k t acc = .error (.unwrittenCoef sid u) := by
  induction k generalizing t acc with
  | zero => omega
  | succ k ih =>
    rw [accumulateTaps]
    rcases htu.eq_or_lt with rfl | hlt
    · rw [tapProduct_unwritten hu]
    · obtain ⟨p, hp⟩ := tapProduct_written (ops := ops) (draw := draw) (sh := sh) (hbefore t hlt)
      rw [hp]
      exact ih (t + 1) _ hlt (by omega)

theorem innerProduct_stops_at_first {sh : List α} {n u : Nat} (hu : mem.readWord (coefAddr sid u) = none)
    (hbefore : ∀ v, v < u → (mem.readWord (coefAddr sid v)).isSome) (hn : u < n) :
    innerProduct ops draw mem sid n sh = .error (.unwrittenCoef sid u) := by
  rw [innerProduct]
  rcases Nat.eq_zero_or_pos u with rfl | hpos
  · rw [tapProduct_unwritten hu]
  · obtain ⟨p, hp⟩ := tapProduct_written (ops := ops) (draw := draw) (sh := sh) (hbefore 0 hpos)
    rw [hp]
    exact accumulateTaps_stops_at_first hu hbefore _ _ _ hpos (by omega)

theorem oscEntry_unwritten {s : State} {l : Lane} (h : OscUnwritten s sid l) :
    oscEntry s.mem sid (s.stage sid).oscIdx.toNat =
      .error (.unwrittenOsc sid (s.stage sid).oscIdx.toNat l) := by
  obtain ⟨hnone, hsecond⟩ := h
  cases l with
  | first => simp [oscEntry, hnone]
  | second =>
    obtain ⟨rfl, hfirst⟩ := hsecond rfl
    obtain ⟨c, hc⟩ := Option.isSome_iff_exists.1 hfirst
    rw [oscEntry, hc]
    simp only [hnone]

/-- An entry whose lanes are written stops no OscNext, so the translation goes on to the inner product. -/
theorem translate_ok_of_written {s : State} (x : α)
    (h : (s.stage sid).transEn = true → OscWritten s sid) :
    ∃ y t, translate ops s.mem sid (s.stage sid) x = .ok (y, t) := by
  rcases translate_cases ops s.mem sid (s.stage sid) x with ⟨-, e⟩ | ⟨f, htrans, herr, -⟩ | ⟨w, -, -, e⟩
  · exact ⟨_, _, e⟩
  · obtain ⟨l, -, hnone, hl⟩ := oscEntry_error herr
    have hsome := h htrans l hl
    rw [hnone] at hsome
    cases hsome
  · exact ⟨_, _, e⟩

/-- The first unwritten word in the order of R172, R181 and R184 is what FilterCompute stops at, whatever
the sample and the shift register. -/
theorem filterCompute_stops_at_first {s : State} {f : Fault} (h : FirstUnwritten s sid f) (sh : List α)
    (x : α) : filterCompute ops draw s.mem sid (s.stage sid) sh x = .error f := by
  rw [filterCompute]
  rcases h with ⟨l, rfl, htrans, hosc⟩ | ⟨t, rfl, hosc, hout, ht, hnone, hbefore⟩
  · have hstop : translate ops s.mem sid (s.stage sid) x =
        .error (.unwrittenOsc sid (s.stage sid).oscIdx.toNat l) := by
      simp [Machine.translate, htrans, oscNext, oscEntry_unwritten hosc]
    rw [hstop]
  · obtain ⟨y, r, hr⟩ := translate_ok_of_written (ops := ops) x hosc
    obtain ⟨hkeeps, hdcnt⟩ := translate_keeps hr
    have hdecim : r.decim = (s.stage sid).decim := hkeeps.config.2.1
    have hcall : r.dcnt + 1 = r.decim := by rw [hdcnt, hdecim, hout]
    have htap : t < tapCount (s.stage sid) := lt_of_lt_of_le ht (le_max_left _ _)
    simp only [hr, hcall, if_true, innerProduct_stops_at_first hnone hbefore htap]

end

theorem filterStage0_stops_at_first {s : State} {f : Fault} (h : FirstUnwritten s .s0 f) (x : C32) :
    filterStage0 x s = .error f := by
  rw [filterStage0, ← stage_s0, filterCompute_stops_at_first h]

theorem filterStage1_stops_at_first {s : State} {f : Fault} (h : FirstUnwritten s .s1 f) (x : F32) :
    filterStage1 x s = .error f := by
  rw [filterStage1, ← stage_s1, filterCompute_stops_at_first h]

theorem filterStage2_stops_at_first {s : State} {f : Fault} (h : FirstUnwritten s .s2 f) (x : F32) :
    filterStage2 x s = .error f := by
  rw [filterStage2, ← stage_s2, filterCompute_stops_at_first h]

/-! ### The commands that read the tables -/

theorem execOscNext_unwritten {s : State} {sel : BitVec 2} {sid : StageId} {l : Lane} (hp : s.Paused)
    (hsel : sel.toNat = sid.num) (ht : (s.stage sid).transEn = true) (h : OscUnwritten s sid l) :
    exec (.oscNext sel) s = .fault (.unwrittenOsc sid (s.stage sid).oscIdx.toNat l) := by
  have he : exec (.oscNext sel) s = execOscNext sel s := rfl
  simp [he, execOscNext, stageOfSel_of_num hsel, component_paused hp.1 hp.2, ht, oscNext, oscEntry_unwritten h]

theorem execFiltCompute_unwritten {s : State} {sel : BitVec 2} {sid : StageId} {f : Fault} (hp : s.Paused)
    (hsel : sel.toNat = sid.num) (h : FirstUnwritten s sid f) : exec (.filtCompute sel) s = .fault f := by
  have he : exec (.filtCompute sel) s = execFiltCompute sel s := rfl
  rw [he, execFiltCompute, stageOfSel_of_num hsel]
  cases sid with
  | s0 => simp [component_paused hp.1 hp.2, filterStage0_stops_at_first h]
  | s1 => simp [component_paused hp.1 hp.2, filterStage1_stops_at_first h]
  | s2 => simp [component_paused hp.1 hp.2, filterStage2_stops_at_first h]

theorem execPipePush_fault {s : State} {f : Fault} (hr : s.ctrl.run = true)
    (h : pipelineStep (complexArg s) s = .error f) : exec .pipePush s = .fault f := by
  have he : exec .pipePush s = execPipePush s := rfl
  simp [he, execPipePush, hr, h]

/-! ### The pipeline, in whichever stage the sample reaches -/

theorem pipelineStep_stops_in_stage0 {x : C32} {s : State} {f : Fault} (h : FirstUnwritten (count .sample s) .s0 f) :
    pipelineStep x s = .error f := by
  simp only [pipelineStep, filterStage0_stops_at_first h]

theorem pipelineStep_stops_in_stage1 {x y : C32} {s a : State} {f : Fault}
    (h0 : filterStage0 x (count .sample s) = .ok (a, some y)) (h : FirstUnwritten a .s1 f) :
    pipelineStep x s = .error f := by
  simp only [pipelineStep, h0, filterStage1_stops_at_first h]

theorem pipelineStep_stops_in_stage2 {x y : C32} {z : F32} {s a b : State} {f : Fault}
    (h0 : filterStage0 x (count .sample s) = .ok (a, some y)) (h1 : filterStage1 (cmag y) a = .ok (b, some z))
    (h : FirstUnwritten b .s2 f) : pipelineStep x s = .error f := by
  simp only [pipelineStep, h0, h1, filterStage2_stops_at_first h]

/-- A bus read goes on whatever it reads (20_memory.md R104, R108). -/
theorem step_read_completes {s : State} {a : Addr} {ts : List Turn} {ops : List BusOp}
    (hturn : s.turns = .host :: ts) (hbus : s.bus = .read a :: ops) : Completes (step s) := by
  refine ⟨busRead a { quiet s with turns := ts, bus := ops }, ?_⟩
  simp only [step, stepOnce, hturn, takeTurn, hostTurn, quiet, hbus, busAccess]

/-- Settles O23: the read of the first unwritten word ends the FilterCompute, and so the command it is part
of; the bus has no such read. -/
theorem unwrittenTableWordFaultsTheDatapathOnly : Obligations.UnwrittenTableWordFaultsTheDatapathOnly :=
  ⟨fun _ _ _ hp hsel =>
      ⟨fun _ ht h => execOscNext_unwritten hp hsel ht h, fun _ h => execFiltCompute_unwritten hp hsel h⟩,
    fun _ hr =>
      ⟨fun _ h => execPipePush_fault hr (pipelineStep_stops_in_stage0 h), fun _ _ h0 =>
        ⟨fun _ h => execPipePush_fault hr (pipelineStep_stops_in_stage1 h0 h), fun _ _ h1 _ h =>
          execPipePush_fault hr (pipelineStep_stops_in_stage2 h0 h1 h)⟩⟩,
    fun _ _ _ _ hturn hbus => step_read_completes hturn hbus⟩

end Sys2Proof.Proofs
end

section
/-! PROOFS. What every step keeps of the SHIFT entries that have no specified value (10_state.md R45, 45_control.md
R348), and what it may stop at (10_state.md R60): one case analysis of the step serves both. -/

namespace Sys2Proof.Proofs

open Sys2Proof Sys2Proof.Machine Sys2Proof.Claims

/-! ### A bus read of an entry that has no specified value -/

/-- How many entries of a stage's shift register have been written since reset. -/
def shiftLength (s : State) : StageId → Nat
  | .s0 => s.shift0.length
  | .s1 => s.shift1.length
  | .s2 => s.shift2.length

theorem storedShiftWord_isSome {sid : StageId} {l : Lane} (hz : laneIsZero sid l = false) (s : State) (k : Nat) :
    (storedShiftWord s sid k l).isSome ↔ k < shiftLength s sid := by
  cases sid <;> cases l <;> simp [storedShiftWord, shiftLength, laneIsZero] at hz ⊢

theorem readShift_zeroLane {sid : StageId} {l : Lane} (hz : laneIsZero sid l = true) (s : State) (k : Nat) :
    readShift s sid k l = 0 := by
  cases sid <;> cases l <;> simp [readShift, storedShiftWord, laneIsZero] at hz ⊢

/-- An entry at or beyond the bound of the specified ones reads its own draw, by whether it is written. -/
theorem readShift_unspecified {s : State} {sid : StageId} {k : Nat} {l : Lane} (hz : laneIsZero sid l = false)
    (hk : (s.stage sid).shiftLive ≤ k) :
    readShift s sid k l =
      if k < shiftLength s sid then Config.staleShiftWord ((s.stage sid).shiftStamps.getD k 0) (shiftAddr sid k l)
      else Config.unwrittenWord s.epoch (shiftAddr sid k l) := by
  have hfree : ¬ k < specifiedTaps (s.stage sid) := by unfold specifiedTaps; omega
  have hsome := storedShiftWord_isSome hz s k
  rcases readShift_cases s sid k l with ⟨hnone, hread⟩ | ⟨w, hw, ⟨hspec, -⟩ | ⟨-, hread⟩⟩
  · have hbeyond : ¬ k < shiftLength s sid := by simpa [hnone] using hsome
    rw [hread, if_neg hbeyond]
  · simp [hz, hfree] at hspec
  · have hheld : k < shiftLength s sid := by simpa [hw] using hsome
    rw [hread, if_pos hheld]

/-- What the draw of entry `k` depends on beside the count of resets: whether the entry is written, and the stamp
of the CONFIGURE that last wrote it. -/
structure EntryKept (s t : State) (sid : StageId) (k : Nat) : Prop where
  held : k < shiftLength t sid ↔ k < shiftLength s sid
  stamp : (t.stage sid).shiftStamps.getD k 0 = (s.stage sid).shiftStamps.getD k 0

theorem readShift_congr {s t : State} {sid : StageId} {k : Nat} (he : t.epoch = s.epoch)
    (h : EntryKept s t sid k) (hs : (s.stage sid).shiftLive ≤ k) (ht : (t.stage sid).shiftLive ≤ k) (l : Lane) :
    readShift t sid k l = readShift s sid k l := by
  cases hz : laneIsZero sid l
  · simp only [readShift_unspecified hz hs, readShift_unspecified hz ht, h.held, h.stamp, he]
  · rw [readShift_zeroLane hz, readShift_zeroLane hz]

/-! ### What a FilterCompute keeps of the shift registers -/

/-- The entries that take part in each stage's datapath are there and written, as CONFIGURE leaves them
(45_control.md R346, R348). -/
def ShiftsFilled (s : State) : Prop :=
  ∀ sid, 1 ≤ (s.stage sid).ntaps.toNat ∧ (s.stage sid).ntaps.toNat ≤ shiftLength s sid

theorem stageKeeps_trans {r t u : StageRegs} (h : StageKeeps r t) (k : StageKeeps t u) : StageKeeps r u := by
  unfold StageKeeps at *
  rw [k, h]

theorem stageKeeps_stamps {r t : StageRegs} (h : StageKeeps r t) : t.shiftStamps = r.shiftStamps := by
  unfold StageKeeps at h
  rw [h]

/-- No entry of a shift register was written for the first time or has taken a new stamp. -/
structure ShiftKept (s t : State) : Prop where
  stage : ∀ sid, StageKeeps (s.stage sid) (t.stage sid)
  length : ∀ sid, shiftLength t sid = shiftLength s sid

theorem ShiftKept.trans {s t u : State} (h : ShiftKept s t) (k : ShiftKept t u) : ShiftKept s u :=
  ⟨fun sid => stageKeeps_trans (h.stage sid) (k.stage sid), fun sid => (k.length sid).trans (h.length sid)⟩

theorem ShiftKept.filled {s t : State} (h : ShiftKept s t) (hs : ShiftsFilled s) : ShiftsFilled t := by
  intro sid
  rw [(h.stage sid).config.1, h.length]
  exact hs sid

theorem ShiftKept.entry {s t : State} (h : ShiftKept s t) (sid : StageId) (k : Nat) : EntryKept s t sid k :=
  ⟨by rw [h.length], by rw [stageKeeps_stamps (h.stage sid)]⟩

/-- Everything the filters own. -/
def filterState (s : State) : StageRegs × StageRegs × StageRegs × List C32 × List F32 × List F32 :=
  (s.stage0, s.stage1, s.stage2, s.shift0, s.shift1, s.shift2)

theorem ShiftKept.of_filterState {s t : State} (h : filterState t = filterState s) : ShiftKept s t := by
  simp only [filterState, Prod.mk.injEq] at h
  obtain ⟨h0, h1, h2, hs0, hs1, hs2⟩ := h
  have hstage : ∀ sid, t.stage sid = s.stage sid
    | .s0 => h0
    | .s1 => h1
    | .s2 => h2
  have hlength : ∀ sid, shiftLength t sid = shiftLength s sid
    | .s0 => congrArg List.length hs0
    | .s1 => congrArg List.length hs1
    | .s2 => congrArg List.length hs2
  exact ⟨fun sid => hstage sid ▸ .refl _, hlength⟩

theorem setStage_kept {s : State} {sid : StageId} {r : StageRegs} (h : StageKeeps (s.stage sid) r) :
    ShiftKept s (s.setStage sid r) := by
  refine ⟨fun k => ?_, fun k => ?_⟩
  · rcases eq_or_ne k sid with rfl | hk
    · rwa [stage_setStage_same]
    · rw [stage_setStage_other s sid r k hk]
      exact .refl _
  · cases k <;> simp [shiftLength]

theorem rxPush_kept (l : Level) (s : State) : ShiftKept s (rxPush l s) := by
  have h := rxPush_frame l s
  unfold ReceiverFrame at h
  rw [h]
  exact .of_filterState rfl

/-- The shift into a filled register drops its oldest entry that takes part for the new one (R181). -/
theorem filterCompute_length {α : Type} {ops : SampleOps α} {draw : Nat → α} {mem : Memory} {sid : StageId}
    {r : StageRegs} {sh : List α} {x : α} {res : FilterResult α}
    (h : filterCompute ops draw mem sid r sh x = .ok res)
    (hfilled : 1 ≤ r.ntaps.toNat ∧ r.ntaps.toNat ≤ sh.length) : res.shift.length = sh.length := by
  obtain ⟨y, t, -, hshift, -⟩ := filterCompute_ok h
  have htaps : tapCount r = r.ntaps.toNat := max_eq_left hfilled.1
  rw [hshift, htaps, shiftIn_length draw sh y hfilled.1]
  exact max_eq_right hfilled.2

theorem filterStage0_kept {x : C32} {s t : State} {out : Option C32} (hs : ShiftsFilled s)
    (h : filterStage0 x s = .ok (t, out)) : ShiftKept s t := by
  obtain ⟨r, hr, -, rfl⟩ := filterStage0_ok h
  exact ⟨fun | .s0 => filterCompute_keeps hr | .s1 => .refl _ | .s2 => .refl _,
    fun | .s0 => filterCompute_length hr (hs .s0) | .s1 => rfl | .s2 => rfl⟩

theorem filterStage1_kept {x : F32} {s t : State} {out : Option F32} (hs : ShiftsFilled s)
    (h : filterStage1 x s = .ok (t, out)) : ShiftKept s t := by
  obtain ⟨r, hr, -, rfl⟩ := filterStage1_ok h
  exact ⟨fun | .s0 => .refl _ | .s1 => filterCompute_keeps hr | .s2 => .refl _,
    fun | .s0 => rfl | .s1 => filterCompute_length hr (hs .s1) | .s2 => rfl⟩

theorem filterStage2_kept {x : F32} {s t : State} {out : Option F32} (hs : ShiftsFilled s)
    (h : filterStage2 x s = .ok (t, out)) : ShiftKept s t := by
  obtain ⟨r, hr, -, rfl⟩ := filterStage2_ok h
  exact ⟨fun | .s0 => .refl _ | .s1 => .refl _ | .s2 => filterCompute_keeps hr,
    fun | .s0 => rfl | .s1 => rfl | .s2 => filterCompute_length hr (hs .s2)⟩

theorem pipelineStep_kept {x : C32} {s t : State} (hs : ShiftsFilled s) (h : pipelineStep x s = .ok t) :
    ShiftKept s t := by
  have hcount : ShiftKept s (count .sample s) := .of_filterState rfl
  rcases pipelineStep_ok h with h0 | ⟨s1, o0, h0, h1⟩
  · exact hcount.trans (filterStage0_kept (hcount.filled hs) h0)
  have k1 := hcount.trans (filterStage0_kept (hcount.filled hs) h0)
  rcases h1 with h1 | ⟨s2, o1, h1, h2⟩
  · exact k1.trans (filterStage1_kept (k1.filled hs) h1)
  have k2 := k1.trans (filterStage1_kept (k1.filled hs) h1)
  rcases h2 with h2 | ⟨s3, o2, h2, rfl⟩
  · exact k2.trans (filterStage2_kept (k2.filled hs) h2)
  · exact (k2.trans (filterStage2_kept (k2.filled hs) h2)).trans (rxPush_kept _ _)

/-! ### The words a fault names -/

/-- The table word that a fault names is not written. -/
def NamesUnwritten (m : Memory) : Fault → Prop
  | .unwrittenCoef sid t => m.readWord (coefAddr sid t) = none
  | .unwrittenOsc sid k l => m.readWord (oscAddr sid k l) = none

theorem oscNext_names {m : Memory} {sid : StageId} {r : StageRegs} {f : Fault}
    (h : oscNext m sid r = .error f) : NamesUnwritten m f := by
  obtain ⟨l, rfl, hnone, -⟩ := oscEntry_error (oscNext_error h)
  exact hnone

theorem filterCompute_names {α : Type} {ops : SampleOps α} {draw : Nat → α} {m : Memory} {sid : StageId}
    {r : StageRegs} {sh : List α} {x : α} {f : Fault}
    (h : filterCompute ops draw m sid r sh x = .error f) : NamesUnwritten m f := by
  rcases filterCompute_error h with ⟨t, -, rfl, hnone⟩ | ⟨l, -, rfl, hnone, -⟩ <;> exact hnone

theorem filterStage0_mem {x : C32} {s t : State} {out : Option C32} (h : filterStage0 x s = .ok (t, out)) :
    t.mem = s.mem := by
  obtain ⟨r, -, -, rfl⟩ := filterStage0_ok h
  rfl

theorem filterStage1_mem {x : F32} {s t : State} {out : Option F32} (h : filterStage1 x s = .ok (t, out)) :
    t.mem = s.mem := by
  obtain ⟨r, -, -, rfl⟩ := filterStage1_ok h
  rfl

/-- A pipeline step stops in the stage the sample has reached, and no stage before it moves the tables. -/
theorem pipelineStep_names {x : C32} {s : State} {f : Fault} (h : pipelineStep x s = .error f) :
    NamesUnwritten s.mem f := by
  rw [← count_mem s .sample]
  unfold pipelineStep at h
  split at h
  · rename_i g e0
    cases h
    exact filterCompute_names (filterStage0_error e0)
  · cases h
  · rename_i s1 o0 e0
    rw [← filterStage0_mem e0]
    split at h
    · rename_i g e1
      cases h
      exact filterCompute_names (filterStage1_error e1)
    · cases h
    · rename_i s2 o1 e1
      rw [← filterStage1_mem e1]
      split at h
      · rename_i g e2
        cases h
        exact filterCompute_names (filterStage2_error e2)
      · cases h
      · cases h

/-! ### Every outcome: what it keeps, and where it stops -/

/-- The free values of SHIFT are kept where no reset comes between: each entry at or beyond the bound of the
specified ones is held as before and has its stamp (10_state.md R45, 45_control.md R348). -/
def KeepsFreeEntries (s t : State) : Prop :=
  t.epoch = s.epoch → ∀ sid k, (t.stage sid).shiftLive ≤ k → EntryKept s t sid k

/-- A block that can run a datapath command has filled shift registers (45_control.md R342, R349). -/
def Ready (s : State) : Prop := s.ctrl.run = true ∨ s.ctrl.configured = true → ShiftsFilled s

/-- What every outcome from `s` is held to: it keeps the free values of SHIFT if it goes on, names an unwritten
word if it stops, and is no refusal. The words are those of `s`, since no command moves a table before it reads. -/
def Lawful (s : State) : Host.Outcome State Fault Refusal → Prop
  | .next t => Ready s → KeepsFreeEntries s t
  | .fault f => NamesUnwritten s.mem f
  | .refused _ => False

theorem ShiftKept.free {s t : State} (h : ShiftKept s t) : KeepsFreeEntries s t := fun _ sid k _ => h.entry sid k

theorem lawful_of_filled {s t : State} (hmode : s.ctrl.run = true ∨ s.ctrl.configured = true)
    (h : ShiftsFilled s → ShiftKept s t) : Lawful s (.next t) := fun hready => (h (hready hmode)).free

/-- What leaves the filters alone keeps every free value. -/
theorem lawful_of_filterState {s t : State} (h : filterState t = filterState s) : Lawful s (.next t) :=
  fun _ => (ShiftKept.of_filterState h).free

theorem lawful_of_reset {s t : State} (h : t.epoch = s.epoch + 1) : Lawful s (.next t) := by
  intro _ he
  omega

/-- The outcome is held to the same from a state that differs in nothing a filter, a table or a mode is made of. -/
theorem lawful_of_start {s u : State} {o : Host.Outcome State Fault Refusal}
    (hstart : u = { s with
      evt := u.evt, cmd := u.cmd, busOut := u.busOut, msgOut := u.msgOut, bus := u.bus, samples := u.samples
      turns := u.turns }) (h : Lawful u o) : Lawful s o := by
  rw [hstart] at h
  cases o with
  | next t =>
    intro hready hepoch sid k hk
    have hkept := h hready hepoch sid k hk
    exact ⟨hkept.held, hkept.stamp⟩
  | fault f => exact h
  | refused r => exact h

theorem lawful_component {body : State → Host.Outcome State Fault Refusal} {s : State}
    (h : s.ctrl.configured = true → Lawful s (body s)) : Lawful s (component body s) := by
  rcases component_cases body s with ⟨-, e⟩ | ⟨-, -, e⟩ | ⟨-, hc, e⟩ <;> rw [e]
  · exact lawful_of_filterState rfl
  · exact lawful_of_filterState rfl
  · exact h hc

/-- A component command whose effect is not on the filters. -/
theorem lawful_quiet {effect : State → State} {s : State} (h : filterState (effect s) = filterState s) :
    Lawful s (component (fun s => .next (effect s)) s) := lawful_component fun _ => lawful_of_filterState h

/-- CONFIGURE writes the entries below NTAPS, which become the specified ones, and no other (R348). -/
theorem configureDone_entry {s : State} {sid : StageId} {k : Nat} (h : (s.stage sid).ntaps.toNat ≤ k) :
    EntryKept s (finish (configureDone s)) sid k := by
  have hheld {α : Type} (zero : α) {r : StageRegs} {sh : List α} (hk : r.ntaps.toNat ≤ k) :
      k < (initShift zero r sh).length ↔ k < sh.length := by
    simpa using congrArg (fun o => o.isSome = true) (initShift_getElem? zero sh hk)
  cases sid with
  | s0 => exact ⟨hheld _ h, initStage_stamp _ h⟩
  | s1 => exact ⟨hheld _ h, initStage_stamp _ h⟩
  | s2 => exact ⟨hheld _ h, initStage_stamp _ h⟩

theorem configureDone_shiftLive (s : State) (sid : StageId) :
    ((finish (configureDone s)).stage sid).shiftLive = (s.stage sid).ntaps.toNat := by cases sid <;> rfl

theorem lawful_configure (s : State) : Lawful s (execConfigure s) := by
  rcases execConfigure_cases s with ⟨-, e⟩ | ⟨code, index, -, -, e⟩ | ⟨-, -, e⟩ <;> rw [e]
  · exact lawful_of_filterState rfl
  · exact lawful_of_filterState rfl
  · intro _ _ sid k hk
    rw [configureDone_shiftLive] at hk
    exact configureDone_entry hk

theorem lawful_pipePush (s : State) : Lawful s (execPipePush s) := by
  unfold execPipePush
  split
  · rename_i hr
    split
    · rename_i f e
      exact pipelineStep_names e
    · rename_i t e
      exact lawful_of_filled (.inl hr) fun hs => (pipelineStep_kept hs e).trans (.of_filterState rfl)
  · exact lawful_of_filterState rfl

theorem lawful_oscNext (sel : BitVec 2) (s : State) : Lawful s (execOscNext sel s) := by
  unfold execOscNext
  split
  · exact lawful_of_filterState rfl
  · rename_i sid _
    refine lawful_component fun hc => ?_
    split
    · split
      · rename_i f e
        exact oscNext_names e
      · rename_i w r e
        obtain ⟨-, rfl⟩ := oscNext_ok e
        exact lawful_of_filled (.inr hc) fun _ => (setStage_kept (oscAdvance_keeps _)).trans (.of_filterState rfl)
    · exact lawful_of_filterState rfl

theorem finishFilter_filterState (out : Option (F32 × F32)) (s : State) :
    filterState (finishFilter out s) = filterState s := by
  rw [finishFilter_frame]
  rfl

theorem lawful_filtCompute (sel : BitVec 2) (s : State) : Lawful s (execFiltCompute sel s) := by
  unfold execFiltCompute
  split
  · exact lawful_of_filterState rfl
  · refine lawful_component fun hc => ?_
    split
    · rename_i f e
      exact filterCompute_names (filterStage0_error e)
    · rename_i t out e
      exact lawful_of_filled (.inr hc) fun hs =>
        (filterStage0_kept hs e).trans (.of_filterState (finishFilter_filterState _ _))
  · refine lawful_component fun hc => ?_
    split
    · rename_i f e
      exact filterCompute_names (filterStage1_error e)
    · rename_i t out e
      exact lawful_of_filled (.inr hc) fun hs =>
        (filterStage1_kept hs e).trans (.of_filterState (finishFilter_filterState _ _))
  · refine lawful_component fun hc => ?_
    split
    · rename_i f e
      exact filterCompute_names (filterStage2_error e)
    · rename_i t out e
      exact lawful_of_filled (.inr hc) fun hs =>
        (filterStage2_kept hs e).trans (.of_filterState (finishFilter_filterState _ _))

theorem lawful_crcPush (n : BitVec 6) (acc : Bool) (s : State) : Lawful s (execCrcPush n acc s) := by
  unfold execCrcPush
  split
  · exact lawful_of_filterState rfl
  · exact lawful_quiet rfl

theorem lawful_rxPushLevel (l : Level) (s : State) : Lawful s (execRxPushLevel l s) :=
  lawful_component fun _ _ =>
    ((rxPush_kept l s).trans (.of_filterState (t := finish (rxPush l s)) rfl)).free

theorem lawful_exec (i : Instr) (s : State) : Lawful s (exec i s) := by
  cases i with
  | nop => exact lawful_of_filterState rfl
  | configure => exact lawful_configure s
  | pipePush => exact lawful_pipePush s
  | rxPushLevel lvl => exact lawful_rxPushLevel lvl s
  | rxAbort =>
    unfold exec execRxAbort
    exact lawful_quiet rfl
  | oscNext sel => exact lawful_oscNext sel s
  | filtCompute sel => exact lawful_filtCompute sel s
  | trkExtend =>
    unfold exec execTrkExtend
    exact lawful_quiet rfl
  | trkStartSymbol =>
    unfold exec execTrkStartSymbol
    exact lawful_quiet rfl
  | trkCount =>
    unfold exec execTrkCount
    exact lawful_quiet rfl
  | trkLockAvg =>
    unfold exec execTrkLockAvg
    exact lawful_quiet rfl
  | trkResetAvg =>
    unfold exec execTrkResetAvg
    exact lawful_quiet rfl
  | manAdd lvl =>
    unfold exec execManAdd
    exact lawful_quiet rfl
  | manPopAll =>
    unfold exec execManPopAll
    exact lawful_quiet rfl
  | manSize =>
    unfold exec execManSize
    exact lawful_quiet rfl
  | manReset =>
    unfold exec execManReset
    exact lawful_quiet rfl
  | crcPush n acc => exact lawful_crcPush n acc s
  | crcFinalize =>
    unfold exec execCrcFinalize
    exact lawful_quiet rfl
  | crcReset =>
    unfold exec execCrcReset
    exact lawful_quiet rfl
  | crcSelect sel =>
    unfold exec execCrcSelect
    exact lawful_quiet rfl

/-- A CFG write moves no entry of a shift register and no stamp, only the bound of the specified ones. -/
theorem lawful_writeCfg (r : CfgReg) (w : Word) (s : State) : Lawful s (.next (writeCfg r w s)) := by
  intro _ _ sid k _
  obtain ⟨-, -, -, hstamps⟩ := storeCfg_stage r w s sid
  have hlength : shiftLength (storeCfg r w s) sid = shiftLength s sid := by
    rw [storeCfg_frame]
    cases sid <;> rfl
  cases sid <;> exact ⟨by rw [← hlength]; rfl, by rw [← hstamps]; rfl⟩

theorem lawful_ctrlWrite (w : Word) (s : State) : Lawful s (.next (ctrlWrite w s)) := by
  unfold ctrlWrite
  split
  · exact lawful_of_reset rfl
  · exact lawful_of_filterState rfl

theorem lawful_cmdWrite (w : Word) (s : State) : Lawful s (cmdWrite w s) := by
  unfold cmdWrite
  split
  · exact lawful_of_filterState rfl
  · rename_i i _
    exact lawful_of_start rfl (lawful_exec i (latchCommand w s))

theorem lawful_writeRw (r : RwReg) (w : Word) (s : State) : Lawful s (writeRw r w s) := by
  cases r with
  | ctrl => exact lawful_ctrlWrite w s
  | cmd => exact lawful_cmdWrite w s
  | evtStatus => exact lawful_of_filterState rfl
  | evtEnable => exact lawful_of_filterState rfl
  | arg0 => exact lawful_of_filterState rfl
  | arg1 => exact lawful_of_filterState rfl

theorem lawful_busRead (a : Addr) (s : State) : Lawful s (.next (busRead a s)) := by
  rw [busRead_frame]
  exact lawful_of_filterState rfl

theorem lawful_busWrite (a : Addr) (w : Word) (strobes : BitVec 4) (s : State) :
    Lawful s (busWrite a w strobes s) := by
  rcases busWrite_cases a w strobes s with ⟨-, e⟩ | ⟨-, -, e⟩ | ⟨r, -, -, e⟩ | ⟨r, -, -, -, e⟩ <;> rw [e]
  · exact lawful_of_filterState rfl
  · exact lawful_of_filterState rfl
  · exact lawful_of_start rfl (lawful_writeRw r w _)
  · exact lawful_of_start rfl (lawful_writeCfg r w _)

theorem lawful_busAccess (op : BusOp) (s : State) : Lawful s (busAccess op s) := by
  cases op with
  | read a => exact lawful_busRead a s
  | write a w strobes => exact lawful_busWrite a w strobes s

theorem lawful_sample {x : C32} {s : State} (hr : s.ctrl.run = true) :
    Lawful s (outcomeOf (pipelineStep x s)) := by
  cases e : pipelineStep x s with
  | error f => exact pipelineStep_names e
  | ok t => exact lawful_of_filled (.inl hr) fun hs => pipelineStep_kept hs e

theorem lawful_step (s : State) : Lawful s (step s) := by
  rcases step_cases s with ⟨-, e⟩ | ⟨ts, -, e⟩ | ⟨ts, -, -, e⟩ | ⟨ts, op, ops, -, -, e⟩ | ⟨ts, -, -, e⟩ |
    ⟨ts, x, xs, -, -, hr, e⟩ <;> rw [e]
  · exact lawful_of_filterState rfl
  · exact lawful_of_reset rfl
  · exact lawful_of_filterState rfl
  · exact lawful_of_start rfl (lawful_busAccess op _)
  · exact lawful_of_filterState rfl
  · exact lawful_of_start rfl (lawful_sample hr)

/-! ### The two statements -/

theorem ntaps_pos_of_checkStage {maxTaps maxOsc : Nat} {r : StageRegs} (h : checkStage maxTaps maxOsc r = none) :
    1 ≤ r.ntaps.toNat := by
  unfold checkStage at h
  split_ifs at h
  omega

theorem checkStage_of_checkConfig {maxTaps maxOsc : Nat} {s : State} (h : checkConfig maxTaps maxOsc s = none)
    (sid : StageId) : checkStage maxTaps maxOsc (s.stage sid) = none := by
  unfold checkConfig checkStages at h
  cases sid <;> grind [State.stage]

/-- A consistent block has filled shift registers whenever a datapath command can run. -/
theorem ready_of_consistent {s : State} (h : s.Consistent) : Ready s := by
  intro hmode sid
  have hc := h.configured (hmode.elim h.run id)
  refine ⟨ntaps_pos_of_checkStage (checkStage_of_checkConfig hc.checked sid), ?_⟩
  cases sid with
  | s0 => exact hc.shift0
  | s1 => exact hc.shift1
  | s2 => exact hc.shift2

/-- Settles O53: every step keeps what the draw of a free entry depends on. -/
theorem shiftWordsBeyondNtapsReadTheSameUntilWritten :
    Obligations.ShiftWordsBeyondNtapsReadTheSameUntilWritten := by
  intro s t sid k l hcons hstep hepoch hs ht
  have hlawful := lawful_step s
  rw [hstep] at hlawful
  have hkept : KeepsFreeEntries s t := hlawful (ready_of_consistent hcons)
  exact readShift_congr hepoch (hkept hepoch sid k ht) hs ht l

/-- Settles O59: every outcome of a step is the next state or a fault that names an unwritten word. -/
theorem onlyAnUnwrittenTableWordStopsTheBlock : Obligations.OnlyAnUnwrittenTableWordStopsTheBlock := by
  intro s
  have hlawful := lawful_step s
  refine ⟨fun sid k e => ?_, fun sid k l e => ?_, fun m e => ?_⟩ <;> rw [e] at hlawful <;> exact hlawful

end Sys2Proof.Proofs
end

section
/-! PROOFS. What a step can do to the configuration (20_memory.md R105, R112): it keeps the CFG registers and
RAM words, or it ends with CONFIGURED = 0, by a reset or by an accepted CFG write. -/

namespace Sys2Proof.Proofs

open Sys2Proof Sys2Proof.Machine Sys2Proof.Claims

/-! ### The same configuration -/

theorem sameConfiguration_refl (s : State) : SameConfiguration s s :=
  ⟨rfl, rfl, fun _ => SameStageConfig.refl _⟩

/-- What keeps to the frame of every command keeps the configuration. -/
theorem sameConfiguration_of_frame {s t : State} (h : CommandFrame s t) : SameConfiguration s t :=
  ⟨h.cfg, h.mem, fun
    | .s0 => h.stage0
    | .s1 => h.stage1
    | .s2 => h.stage2⟩

theorem sameConfiguration_of_pipeline {s t : State} {x : C32} (h : pipelineStep x s = .ok t) :
    SameConfiguration s t := by
  have hframe := sameConfiguration_of_frame (CommandFrame.of_pipeline (pipelineStep_frame h))
  exact hframe

/-! ### The three effects on the configuration -/

/-- Everything a step can do to the configuration and the RAM words. -/
inductive ConfigEffect (s t : State) : Prop
  | kept (hsame : SameConfiguration s t)
  | reset (hoff : t.ctrl.configured = false) (hmem : t.mem = [])
  | stored (hoff : t.ctrl.configured = false) (hmem : t.mem = s.mem ∨ ∃ a w, t.mem = s.mem.writeWord a w)

/-- The effect is the same from a state that differs in nothing the configuration is made of. -/
theorem ConfigEffect.of_start {s u t : State}
    (hstart : u = { s with
      evt := u.evt, cmd := u.cmd, busOut := u.busOut, msgOut := u.msgOut, bus := u.bus, samples := u.samples
      turns := u.turns }) (h : ConfigEffect u t) : ConfigEffect s t := by
  rw [hstart] at h
  cases h with
  | kept hsame => exact .kept hsame
  | reset hoff hmem => exact .reset hoff hmem
  | stored hoff hmem => exact .stored hoff hmem

/-- A CFG write stores one RAM word or none. -/
theorem storeCfg_mem (r : CfgReg) (w : Word) (s : State) :
    (storeCfg r w s).mem = s.mem ∨ ∃ a, (storeCfg r w s).mem = s.mem.writeWord a w := by
  cases r with
  | coef sid t => exact .inr ⟨_, rfl⟩
  | oscTab sid k l => exact .inr ⟨_, rfl⟩
  | ntaps sid => exact .inl (setStage_mem _ _ _)
  | decim sid => exact .inl (setStage_mem _ _ _)
  | fs sid => exact .inl (setStage_mem _ _ _)
  | ftrans sid => exact .inl (setStage_mem _ _ _)
  | transEn sid => exact .inl (setStage_mem _ _ _)
  | _ => exact .inl rfl

theorem configEffect_writeCfg (r : CfgReg) (w : Word) (s : State) : ConfigEffect s (writeCfg r w s) :=
  .stored rfl ((storeCfg_mem r w s).imp_right fun ⟨a, h⟩ => ⟨a, w, h⟩)

theorem configEffect_ctrlWrite (w : Word) (s : State) : ConfigEffect s (ctrlWrite w s) := by
  unfold ctrlWrite
  split
  · exact .reset rfl rfl
  · exact .kept (sameConfiguration_refl s)

/-- Whatever becomes of a command, no command touches the configuration. -/
theorem configEffect_cmdWrite {w : Word} {s t : State} (h : cmdWrite w s = .next t) : ConfigEffect s t := by
  unfold cmdWrite at h
  split at h
  · cases h
    exact .kept (sameConfiguration_refl s)
  · exact .of_start (u := latchCommand w s) rfl (.kept (sameConfiguration_of_frame (exec_frame h)))

theorem configEffect_writeRw {r : RwReg} {w : Word} {s t : State} (h : writeRw r w s = .next t) :
    ConfigEffect s t := by
  cases r with
  | ctrl => cases h; exact configEffect_ctrlWrite w s
  | cmd => exact configEffect_cmdWrite h
  | evtStatus => cases h; exact .kept (sameConfiguration_refl s)
  | evtEnable => cases h; exact .kept (sameConfiguration_refl s)
  | arg0 => cases h; exact .kept (sameConfiguration_refl s)
  | arg1 => cases h; exact .kept (sameConfiguration_refl s)

theorem configEffect_busWrite {a : Addr} {w : Word} {strobes : BitVec 4} {s t : State}
    (h : busWrite a w strobes s = .next t) : ConfigEffect s t := by
  rcases busWrite_cases a w strobes s with ⟨-, e⟩ | ⟨-, -, e⟩ | ⟨r, -, -, e⟩ | ⟨r, -, -, -, e⟩ <;> rw [e] at h
  · cases h; exact .kept (sameConfiguration_refl s)
  · cases h; exact .kept (sameConfiguration_refl s)
  · exact .of_start (u := { s with busOut := some (.write .okay) }) rfl (configEffect_writeRw h)
  · cases h
    exact .of_start (u := { s with busOut := some (.write .okay) }) rfl (configEffect_writeCfg r w _)

theorem configEffect_busAccess {op : BusOp} {s t : State} (h : busAccess op s = .next t) :
    ConfigEffect s t := by
  cases op with
  | read a =>
    cases h
    rw [busRead_frame]
    exact .kept (sameConfiguration_refl s)
  | write a w strobes => exact configEffect_busWrite h

theorem configEffect_sample {x : C32} {s t : State} (h : outcomeOf (pipelineStep x s) = .next t) :
    ConfigEffect s t := by
  cases e : pipelineStep x s with
  | error f => rw [e] at h; cases h
  | ok u =>
    rw [e] at h
    cases h
    exact .kept (sameConfiguration_of_pipeline e)

theorem configEffect_step {s t : State} (h : step s = .next t) : ConfigEffect s t := by
  rcases step_cases s with ⟨-, e⟩ | ⟨ts, -, e⟩ | ⟨ts, -, -, e⟩ | ⟨ts, op, ops, -, -, e⟩ | ⟨ts, -, -, e⟩ |
    ⟨ts, x, xs, -, -, -, e⟩ <;> rw [e] at h
  · cases h; exact .kept (sameConfiguration_refl s)
  · cases h; exact .reset rfl rfl
  · cases h; exact .kept (sameConfiguration_refl s)
  · exact .of_start (u := { quiet s with turns := ts, bus := ops }) rfl (configEffect_busAccess h)
  · cases h; exact .kept (sameConfiguration_refl s)
  · exact .of_start (u := { quiet s with turns := ts, samples := xs }) rfl (configEffect_sample h)

/-- Settles O57: of the effects a step can have, only the kept configuration ends with CONFIGURED = 1. -/
theorem configuredStepsKeepTheConfiguration : Obligations.ConfiguredStepsKeepTheConfiguration := by
  intro s t hstep hon
  cases configEffect_step hstep with
  | kept hsame => exact hsame
  | reset hoff _ => simp [hoff] at hon
  | stored hoff _ => simp [hoff] at hon

/-- Settles O58: the RAM words stay, are all unwritten by a reset, or change by one word write. -/
theorem stepKeepsMemoryCanonical : Obligations.StepKeepsMemoryCanonical := by
  intro s t hwf hstep
  cases configEffect_step hstep with
  | kept hsame =>
    obtain ⟨-, hmem, -⟩ := hsame
    rwa [hmem]
  | reset _ hmem =>
    rw [hmem]
    exact .nil
  | stored _ hmem =>
    rcases hmem with hmem | ⟨a, w, hmem⟩ <;> rw [hmem]
    · exact hwf
    · exact writeWord_wf _ _ _ hwf

end Sys2Proof.Proofs
end

section
/-! PROOFS. The address map and its refusals (20_memory.md R102 to R107). -/

namespace Sys2Proof.Proofs

open Sys2Proof Sys2Proof.Machine Sys2Proof.Claims

/-! ### Refused accesses -/

/-- No command touches the bus response. -/
theorem cmdWrite_busOut {w : Word} {s t : State} (h : cmdWrite w s = .next t) : t.busOut = s.busOut := by
  unfold cmdWrite at h
  split at h
  · cases h
    rfl
  · have hframe := exec_frame h
    exact hframe.busOut

/-- A soft reset and a command answer their write like every other one (45_control.md R340, R343). -/
theorem writeRw_busOut {r : RwReg} {w : Word} {s t : State} (h : writeRw r w s = .next t) :
    t.busOut = s.busOut := by
  cases r with
  | ctrl =>
    cases h
    unfold ctrlWrite
    split <;> rfl
  | cmd => exact cmdWrite_busOut h
  | evtStatus => cases h; rfl
  | evtEnable => cases h; rfl
  | arg0 => cases h; rfl
  | arg1 => cases h; rfl

theorem writeCfg_busOut (r : CfgReg) (w : Word) (s : State) : (writeCfg r w s).busOut = s.busOut := by
  have hframe : (storeCfg r w s).busOut = s.busOut := by rw [storeCfg_frame]
  exact hframe

/-- A bus write is refused with no other effect, or answered OKAY. -/
theorem busWrite_response {a : Addr} {w : Word} {strobes : BitVec 4} {s t : State}
    (h : busWrite a w strobes s = .next t) :
    t = { s with busOut := some (.write .error) } ∨ t.busOut = some (.write .okay) := by
  rcases busWrite_cases a w strobes s with ⟨-, e⟩ | ⟨-, -, e⟩ | ⟨r, -, -, e⟩ | ⟨r, -, -, -, e⟩ <;> rw [e] at h
  · cases h; exact .inl rfl
  · cases h; exact .inr rfl
  · exact .inr (writeRw_busOut h)
  · cases h; exact .inr (writeCfg_busOut r w _)

/-- A bus read is refused with data 0, or answered OKAY, and has no other effect. -/
theorem busRead_response (a : Addr) (s : State) :
    busRead a s = { s with busOut := some (.read .error 0) } ∨
      ∃ d, (busRead a s).busOut = some (.read .okay d) := by
  cases hr : regAt a with
  | none => exact .inl (busRead_unmapped hr)
  | some r => exact .inr ⟨readReg r s, by rw [busRead_mapped hr]⟩

/-- Settles O49: an access is refused as R104 says or answered OKAY. -/
theorem refusedAccessChangesNothing : Obligations.RefusedAccessChangesNothing := by
  intro s t op h
  cases op with
  | read a =>
    cases h
    rcases busRead_response a s with e | ⟨d, e⟩ <;> simp [e]
  | write a w strobes =>
    rcases busWrite_response h with rfl | e
    · simp
    · simp [e]

/-! ### The word at each address -/

theorem regAt_ram {a : Addr} (h4 : a.toNat % 4 = 0) (hlo : 0x1000 ≤ a.toNat) :
    regAt a = ramReg Config.maxTaps Config.maxOsc a.toNat := by
  simp (disch := omega) only [regAt, if_neg]

theorem ramReg_exists {n : Nat} {r : Reg} (h : ramReg Config.maxTaps Config.maxOsc n = some r) :
    regExists r := by
  unfold ramReg at h
  split_ifs at h <;> obtain ⟨s, -, h⟩ := Option.bind_eq_some_iff.1 h <;> cases h <;> assumption

/-- The RAM windows begin at 0x1000, and every word below them exists. -/
theorem regExists_of_low {r : Reg} (h : regAddress r < 0x1000) : regExists r := by
  rcases r with r | r | r
  · cases r with
    | shift s t l =>
      simp only [regAddress, shiftAddr] at h
      omega
    | _ => trivial
  · trivial
  · cases r with
    | coef s t =>
      simp only [regAddress, coefAddr] at h
      omega
    | oscTab s k l =>
      simp only [regAddress, oscAddr] at h
      omega
    | _ => trivial

theorem regAt_exists {a : Addr} {r : Reg} (h : regAt a = some r) : regExists r := by
  have haddr := regAt_address h
  by_cases hlo : a.toNat < 0x1000
  · exact regExists_of_low (by omega)
  · have h4 : a.toNat % 4 = 0 := by
      by_contra hmis
      simp [regAt_misaligned hmis] at h
    rw [regAt_ram h4 (by omega)] at h
    exact ramReg_exists h

theorem stageOfNat_of_num (s : StageId) : stageOfNat s.num = some s := by cases s <;> rfl

theorem num_lt (s : StageId) : s.num < 3 := by cases s <;> decide

theorem offset_cases (l : Lane) : l.offset = 0 ∨ l.offset = 4 := by cases l <;> decide

theorem laneOfOffset_of_mod {n : Nat} {l : Lane} (h : n % 8 = l.offset) : laneOfOffset n = l := by
  unfold laneOfOffset
  rw [h]
  cases l <;> rfl

theorem ramReg_coef {maxTaps : Nat} (maxOsc : Nat) (s : StageId) {t : Nat} (ht : t < maxTaps)
    (hfit : t < 0x400) : ramReg maxTaps maxOsc (coefAddr s t) = some (.cfg (.coef s t)) := by
  have hs := num_lt s
  have hwindow : coefAddr s t < 0x4000 := by unfold coefAddr; omega
  have hstage : coefAddr s t / 0x1000 - 1 = s.num := by unfold coefAddr; omega
  have hentry : coefAddr s t % 0x1000 / 4 = t := by unfold coefAddr; omega
  simp only [ramReg, if_pos hwindow, hstage, hentry, stageOfNat_of_num, Option.bind_some, if_pos ht]

theorem ramReg_oscTab (maxTaps : Nat) {maxOsc : Nat} (s : StageId) {k : Nat} (l : Lane) (hk : k < maxOsc)
    (hfit : k < 0x400) : ramReg maxTaps maxOsc (oscAddr s k l) = some (.cfg (.oscTab s k l)) := by
  have hs := num_lt s
  have hl := offset_cases l
  have hbelow : ¬ oscAddr s k l < 0x4000 := by unfold oscAddr; omega
  have hwindow : oscAddr s k l < 0xA000 := by unfold oscAddr; omega
  have hstage : (oscAddr s k l - 0x4000) / 0x2000 = s.num := by unfold oscAddr; omega
  have hentry : oscAddr s k l % 0x2000 / 8 = k := by unfold oscAddr; omega
  have hlane : laneOfOffset (oscAddr s k l) = l := laneOfOffset_of_mod (by unfold oscAddr; omega)
  simp only [ramReg, if_neg hbelow, if_pos hwindow, hstage, hentry, hlane, stageOfNat_of_num, Option.bind_some,
    if_pos hk]

theorem ramReg_shift {maxTaps : Nat} (maxOsc : Nat) (s : StageId) {t : Nat} (l : Lane) (ht : t < maxTaps)
    (hfit : t < 0x400) : ramReg maxTaps maxOsc (shiftAddr s t l) = some (.ro (.shift s t l)) := by
  have hs := num_lt s
  have hl := offset_cases l
  have hbelow : ¬ shiftAddr s t l < 0x4000 := by unfold shiftAddr; omega
  have hwindow : ¬ shiftAddr s t l < 0xA000 := by unfold shiftAddr; omega
  have hstage : (shiftAddr s t l - 0xA000) / 0x2000 = s.num := by unfold shiftAddr; omega
  have hentry : shiftAddr s t l % 0x2000 / 8 = t := by unfold shiftAddr; omega
  have hlane : laneOfOffset (shiftAddr s t l) = l := laneOfOffset_of_mod (by unfold shiftAddr; omega)
  simp only [ramReg, if_neg hbelow, if_neg hwindow, hstage, hentry, hlane, stageOfNat_of_num, Option.bind_some,
    if_pos ht]

/-- An aligned address at and above 0x1000 is looked up in the RAM windows. -/
theorem regAt_ofNat_ram {n : Nat} (h4 : n % 4 = 0) (hlo : 0x1000 ≤ n) (hhi : n < 0x10000) :
    regAt (BitVec.ofNat 16 n) = ramReg Config.maxTaps Config.maxOsc n := by
  have hn : (BitVec.ofNat 16 n).toNat = n := Nat.mod_eq_of_lt hhi
  rw [regAt_ram (by rwa [hn]) (by rwa [hn]), hn]

theorem regAt_coef {s : StageId} {t : Nat} (ht : t < Config.maxTaps) :
    regAt (BitVec.ofNat 16 (coefAddr s t)) = some (.cfg (.coef s t)) := by
  have hfit : t < 0x400 := ht.trans_le (Config.maxTaps_le.trans (by decide))
  have hs := num_lt s
  rw [regAt_ofNat_ram, ramReg_coef _ s ht hfit] <;> unfold coefAddr <;> omega

theorem regAt_oscTab {s : StageId} {k : Nat} {l : Lane} (hk : k < Config.maxOsc) :
    regAt (BitVec.ofNat 16 (oscAddr s k l)) = some (.cfg (.oscTab s k l)) := by
  have hfit : k < 0x400 := hk.trans_le Config.maxOsc_le
  have hs := num_lt s
  have hl := offset_cases l
  rw [regAt_ofNat_ram, ramReg_oscTab _ s l hk hfit] <;> unfold oscAddr <;> omega

theorem regAt_shift {s : StageId} {t : Nat} {l : Lane} (ht : t < Config.maxTaps) :
    regAt (BitVec.ofNat 16 (shiftAddr s t l)) = some (.ro (.shift s t l)) := by
  have hfit : t < 0x400 := ht.trans_le (Config.maxTaps_le.trans (by decide))
  have hs := num_lt s
  have hl := offset_cases l
  rw [regAt_ofNat_ram, ramReg_shift _ s l ht hfit] <;> unfold shiftAddr <;> omega

/-- Every word that exists is found at its address (R107). -/
theorem regAt_regAddress {r : Reg} (h : regExists r) : regAt (BitVec.ofNat 16 (regAddress r)) = some r := by
  rcases r with r | r | r
  · cases r with
    | oscN s => cases s <;> decide
    | oscIdx s => cases s <;> decide
    | dcnt s => cases s <;> decide
    | trkSlot i => clear h; revert i; decide
    | counter c => cases c <;> rfl
    | shift s t l => exact regAt_shift h
    | _ => rfl
  · cases r <;> rfl
  · cases r with
    | ntaps s => cases s <;> decide
    | decim s => cases s <;> decide
    | fs s => cases s <;> decide
    | ftrans s => cases s <;> decide
    | transEn s => cases s <;> decide
    | poly v => clear h; revert v; decide
    | finalXor v => clear h; revert v; decide
    | planLen v => clear h; revert v; decide
    | plan v e => clear h; revert v e; decide
    | coef s t => exact regAt_coef h
    | oscTab s k l => exact regAt_oscTab h
    | _ => rfl

theorem regAt_iff (a : Addr) (r : Reg) : regAt a = some r ↔ regAddress r = a.toNat ∧ regExists r := by
  constructor
  · exact fun h => ⟨regAt_address h, regAt_exists h⟩
  · rintro ⟨haddr, hex⟩
    have hfound := regAt_regAddress hex
    rwa [haddr, BitVec.ofNat_toNat, BitVec.setWidth_eq] at hfound

/-- An address is unmapped exactly if it is the address of no word that exists. -/
theorem regAt_eq_none_iff (a : Addr) :
    regAt a = none ↔ ∀ r, regAddress r = a.toNat → ¬ regExists r := by
  simp only [Option.eq_none_iff_forall_ne_some, ne_eq, regAt_iff, not_and]

theorem busWrite_refused {a : Addr} {strobes : BitVec 4} (h : strobes ≠ 0xF ∨ regAt a = none) (w : Word)
    (s : State) : busWrite a w strobes s = .next { s with busOut := some (.write .error) } := by
  unfold busWrite
  split
  · rename_i hfull
    rw [h.resolve_left (not_not_intro hfull)]
    rfl
  · rfl

/-- Settles O50: the map is inverse to the table of addresses, and what it does not hold is refused. -/
theorem accessesOutsideTheMapAndPartialWritesAreRefused :
    Obligations.AccessesOutsideTheMapAndPartialWritesAreRefused := by
  refine ⟨regAt_iff, fun s a w strobes => ⟨fun h => ?_, fun h => ?_, fun h => ?_⟩⟩
  · exact congrArg _ (busRead_unmapped ((regAt_eq_none_iff a).2 h))
  · exact (regAt_eq_none_iff a).1 (regAt_misaligned h)
  · exact busWrite_refused (h.imp_right (regAt_eq_none_iff a).2) w s

end Sys2Proof.Proofs
end

section
/-! PROOFS. The layouts of the registers and the side effects of an access (10_state.md R31 to R59, 20_memory.md
R105, R108). -/

namespace Sys2Proof.Proofs

open Sys2Proof Sys2Proof.Machine Sys2Proof.Claims

/-! ### Words made of fields, as numbers -/

@[simp] theorem toNat_fieldAt {n : Nat} (lo : Nat) (v : BitVec n) (h : lo + n ≤ 32) :
    (fieldAt lo v).toNat = 2 ^ lo * v.toNat := by
  have hv : v.toNat * 2 ^ lo < 2 ^ 32 := calc
    v.toNat * 2 ^ lo < 2 ^ n * 2 ^ lo := Nat.mul_lt_mul_of_pos_right v.isLt (Nat.two_pow_pos lo)
    _ = 2 ^ (n + lo) := (pow_add 2 n lo).symm
    _ ≤ 2 ^ 32 := Nat.pow_le_pow_right (by decide) (by omega)
  have hwide : v.toNat < 2 ^ 32 := v.isLt.trans_le (Nat.pow_le_pow_right (by decide) (by omega))
  rw [fieldAt, BitVec.toNat_shiftLeft, BitVec.toNat_setWidth, Nat.mod_eq_of_lt hwide, Nat.shiftLeft_eq,
    Nat.mod_eq_of_lt hv, Nat.mul_comm]

@[simp] theorem toNat_bitAt (lo : Nat) (b : Bool) (h : lo < 32) : (bitAt lo b).toNat = 2 ^ lo * b.toNat := by
  rw [bitAt, toNat_fieldAt lo _ h, BitVec.toNat_ofBool]

/-- Every bit of the word at and above bit `k` is 0. -/
def FitsBelow (k : Nat) (x : Word) : Prop := x.toNat < 2 ^ k

@[simp] theorem fitsBelow_fieldAt {n lo k : Nat} (v : BitVec n) (h : lo + n ≤ 32) (hk : lo + n ≤ k) :
    FitsBelow k (fieldAt lo v) := by
  rw [FitsBelow, toNat_fieldAt lo v h]
  calc
    2 ^ lo * v.toNat < 2 ^ lo * 2 ^ n := Nat.mul_lt_mul_of_pos_left v.isLt (Nat.two_pow_pos lo)
    _ = 2 ^ (lo + n) := (pow_add 2 lo n).symm
    _ ≤ 2 ^ k := Nat.pow_le_pow_right (by decide) hk

@[simp] theorem fitsBelow_bitAt {lo k : Nat} (b : Bool) (h : lo < 32) (hk : lo < k) :
    FitsBelow k (bitAt lo b) :=
  fitsBelow_fieldAt _ h hk

@[simp] theorem fitsBelow_or {k : Nat} {x y : Word} :
    FitsBelow k (x ||| y) ↔ FitsBelow k x ∧ FitsBelow k y := by
  rw [FitsBelow, BitVec.toNat_or]
  exact ⟨fun h => ⟨Nat.left_le_or.trans_lt h, Nat.right_le_or.trans_lt h⟩, fun h => Nat.or_lt_two_pow h.1 h.2⟩

/-- A field above every bit of a word adds its number, scaled. -/
@[simp] theorem toNat_or_fieldAt {n lo : Nat} {x : Word} (v : BitVec n) (hx : FitsBelow lo x)
    (h : lo + n ≤ 32) : (x ||| fieldAt lo v).toNat = x.toNat + 2 ^ lo * v.toNat := by
  rw [BitVec.toNat_or, toNat_fieldAt lo v h, Nat.or_comm, ← Nat.two_pow_add_eq_or_of_lt hx, Nat.add_comm]

@[simp] theorem toNat_or_bitAt {lo : Nat} {x : Word} (b : Bool) (hx : FitsBelow lo x) (h : lo < 32) :
    (x ||| bitAt lo b).toNat = x.toNat + 2 ^ lo * b.toNat := by
  rw [bitAt, toNat_or_fieldAt _ hx h, BitVec.toNat_ofBool]

theorem statusWord_toNat (s : State) :
    (statusWord s).toNat =
      s.ctrl.configured.toNat + 2 * s.ctrl.run.toNat + 4 * s.ctrl.fatal.toNat + 8 * s.irq.toNat := by
  simp [statusWord, -BitVec.toNat_or]

theorem cmdStatusWord_toNat (c : CmdRegs) :
    (cmdStatusWord c).toNat = c.code.toNat + 2 ^ 8 * c.valid.toNat + 2 ^ 24 * c.opcode.toNat := by
  simp [cmdStatusWord, -BitVec.toNat_or]

theorem rxStateWord_toNat (r : RxRegs) :
    (rxStateWord r).toNat =
      r.state.toNat + 2 ^ 8 * r.planIdx.toNat + 2 ^ 16 * r.prevLevel.toNat + 2 ^ 24 * r.msgActive.toNat := by
  simp [rxStateWord, -BitVec.toNat_or]

theorem manStatusWord_toNat (m : Manchester) :
    (manStatusWord m).toNat = m.pendLevel.toNat + 2 * m.pendValid.toNat + 2 ^ 8 * m.cnt.toNat := by
  simp [manStatusWord, -BitVec.toNat_or]

theorem curInfoWord_toNat (c : CurMsg) :
    (curInfoWord c).toNat = c.vendor.toNat + 2 ^ 8 * c.channel.toNat + 2 ^ 16 * c.hdrPresent.toNat := by
  simp [curInfoWord, -BitVec.toNat_or]

theorem msgInfoWord_toNat (m : OutMsg) :
    (msgInfoWord m).toNat =
      m.vendor.toNat + 2 ^ 8 * m.channel.toNat + 2 ^ 16 * m.hdrPresent.toNat + 2 ^ 17 * m.devidPresent.toNat +
        2 ^ 24 * m.valid.toNat := by
  simp [msgInfoWord, -BitVec.toNat_or]

theorem planWord_toNat (k : PlanEntry) :
    (planWord k).toNat = k.kind.toNat + 2 ^ 4 * k.zchk.toNat + 2 ^ 8 * k.width.toNat := by
  simp [planWord, -BitVec.toNat_or]

theorem chRangeWord_toNat (c : RxConfig) :
    (chRangeWord c).toNat = c.chMin.toNat + 2 ^ 8 * c.chMax.toNat := by
  simp [chRangeWord, -BitVec.toNat_or]

theorem errWord_toNat (c : Ctrl) : (errWord c).toNat = c.errCode.toNat + 2 ^ 8 * c.errIndex.toNat := by
  simp [errWord, -BitVec.toNat_or]

/-! ### What each mapped word reads -/

theorem readSlot_toNat (t : Tracker) (i : BitVec 5) :
    (readSlot t i).toNat = if i.toNat < t.width then (t.slot i.toNat).toNat else 0 := by
  unfold readSlot
  split
  · have := (t.slot i.toNat).isLt
    rw [BitVec.toNat_setWidth]
    omega
  · rfl

/-- Where the value of a SHIFT word is fixed, the lane holds it and a read answers it (10_state.md R45). -/
theorem readShift_toNat {s : State} {sid : StageId} {t : Nat} {l : Lane} {v : Nat}
    (h : shiftValue s sid t l = some v) : (readShift s sid t l).toNat = v := by
  have hstored : ∃ w, storedShiftWord s sid t l = some w ∧ w.toNat = v ∧
      (laneIsZero sid l ∨ t < specifiedTaps (s.stage sid)) := by
    cases l <;> cases sid <;> simp [shiftValue, storedShiftWord, laneIsZero] at h ⊢ <;> grind
  obtain ⟨w, hw, rfl, hspec⟩ := hstored
  rw [readShift, hw]
  exact congrArg _ (if_pos hspec)

theorem readRam_toNat {s : State} {a v : Nat} (h : (s.mem.readWord a).map BitVec.toNat = some v) :
    (readRam s a).toNat = v := by
  obtain ⟨w, hw, rfl⟩ := Option.map_eq_some_iff.1 h
  rw [readRam, hw]
  rfl

theorem readRo_toNat {r : RoReg} {s : State} {v : Nat} (h : registerValue s (.ro r) = some v) :
    (readRo r s).toNat = v := by
  cases r with
  | shift sid t l => exact readShift_toNat h
  | counter c => cases c <;> cases h <;> rfl
  | status => cases h; exact statusWord_toNat s
  | err => cases h; exact errWord_toNat s.ctrl
  | cmdStatus => cases h; exact cmdStatusWord_toNat s.cmd
  | rxState => cases h; exact rxStateWord_toNat s.rx
  | manStatus => cases h; exact manStatusWord_toNat s.man
  | curInfo => cases h; exact curInfoWord_toNat s.cur
  | msgInfo => cases h; exact msgInfoWord_toNat s.msg
  | trkSlot i => cases h; exact readSlot_toNat s.trk i
  | trkCur => cases h; simp [readRo]
  | avgDen => cases h; simp [readRo]
  | crcReg => cases h; simp [readRo]
  | crcPoly => cases h; simp [readRo]
  | crcFxor => cases h; simp [readRo]
  | curState => cases h; simp [readRo]
  | msgState => cases h; simp [readRo]
  | crcAccLo => cases h; simp [readRo]
  | crcAccHi =>
    cases h
    have := s.crc.acc.isLt
    simp [readRo, Nat.shiftRight_eq_div_pow]
    omega
  | _ => cases h; rfl

theorem readRw_toNat {r : RwReg} {s : State} {v : Nat} (h : registerValue s (.rw r) = some v) :
    (readRw r s).toNat = v := by
  cases r with
  | ctrl => cases h; simp [readRw]
  | evtStatus => cases h; simp [readRw]
  | evtEnable => cases h; simp [readRw]
  | _ => cases h; rfl

theorem plan_get_eq_getD (v : Vendor) (e : BitVec 3) :
    v.plan.get e.toFin = v.plan.getD e.toNat PlanEntry.reset := by
  have he := e.isLt
  simp [Vector.getD, he, Vector.get_eq_getElem]

theorem readCfg_toNat {r : CfgReg} {s : State} {v : Nat} (h : registerValue s (.cfg r) = some v) :
    (readCfg r s).toNat = v := by
  cases r with
  | transEn sid => cases h; simp [readCfg]
  | syncWidth => cases h; simp [readCfg]
  | estDen => cases h; simp [readCfg]
  | poly v => cases h; simp [readCfg]
  | finalXor v => cases h; simp [readCfg]
  | planLen v => cases h; simp [readCfg]
  | chRange => cases h; exact chRangeWord_toNat s.cfg
  | plan v e => cases h; simp only [readCfg, plan_get_eq_getD, planWord_toNat]
  | coef sid t => exact readRam_toNat h
  | oscTab sid k l => exact readRam_toNat h
  | _ => cases h; rfl

theorem readReg_toNat {r : Reg} {s : State} {v : Nat} (h : registerValue s r = some v) :
    (readReg r s).toNat = v := by
  rcases r with r | r | r
  · exact readRo_toNat h
  · exact readRw_toNat h
  · exact readCfg_toNat h

/-! ### Reads and plain writes -/

/-- No register is made of the bus response. -/
theorem readReg_busOut (r : Reg) (s : State) (b : Option BusResp) :
    readReg r { s with busOut := b } = readReg r s := by
  rcases r with r | r | r <;> cases r <;> rfl

/-- A second read of the same address answers the same (20_memory.md R108). -/
theorem busRead_idempotent (a : Addr) (s : State) : busRead a (busRead a s) = busRead a s := by
  cases hr : regAt a with
  | none => simp only [busRead_unmapped hr]
  | some r => simp only [busRead_mapped hr, readReg_busOut]

theorem busWrite_ro {a : Addr} {r : RoReg} (h : regAt a = some (.ro r)) (w : Word) (s : State) :
    busWrite a w 0xF s = .next { s with busOut := some (.write .okay) } := by
  simp [busWrite, h, respond]

theorem busWrite_rw {a : Addr} {r : RwReg} (h : regAt a = some (.rw r)) (w : Word) (s : State) :
    busWrite a w 0xF s = writeRw r w { s with busOut := some (.write .okay) } := by
  simp [busWrite, h, respond]

/-- Settles O51: the layouts word by word, the reads by `busRead`'s two outcomes, the writes by their class. -/
theorem accessesHaveTheirLayoutsAndSideEffects : Obligations.AccessesHaveTheirLayoutsAndSideEffects := by
  intro s
  refine ⟨fun r v => readReg_toNat, fun a => ?_, fun a r w h => busWrite_ro h w s, fun w => ?_⟩
  · refine ⟨busRead a s, rfl, busRead_frame a s, ?_, congrArg Host.Outcome.next (busRead_idempotent a s)⟩
    cases hr : regAt a with
    | none => rw [busRead_unmapped hr]
    | some r => rw [busRead_mapped hr]
  · have hlow : w.extractLsb' 0 8 = w.setWidth 8 := (BitVec.setWidth_eq_extractLsb' (by decide)).symm
    rw [← hlow]
    exact ⟨busWrite_rw (a := 0x024) (r := .arg0) rfl w s, busWrite_rw (a := 0x028) (r := .arg1) rfl w s,
      busWrite_rw (a := 0x014) (r := .evtEnable) rfl w s, busWrite_rw regAt_evtStatus w s⟩

end Sys2Proof.Proofs
end

section
/-! PROOFS. An accepted CFG write: the bits it stores read back, and every other CFG word reads as before
(10_state.md R30, 20_memory.md R105). -/

namespace Sys2Proof.Proofs

open Sys2Proof Sys2Proof.Machine Sys2Proof.Claims

/-! ### The bits of a word that a field holds -/

/-- A field cut out of a word and put back is the word under the field's mask. -/
theorem fieldAt_extractLsb' (lo n : Nat) (w : Word) :
    fieldAt lo (w.extractLsb' lo n) = w &&& fieldAt lo (BitVec.allOnes n) := by
  apply BitVec.eq_of_getLsbD_eq
  intro i hi
  by_cases hlo : i < lo
  · simp [fieldAt, hlo]
  · simp [fieldAt, BitVec.getLsbD_extractLsb', hlo, hi, Nat.add_sub_of_le (not_lt.1 hlo), Bool.and_comm]

theorem ofBool_getLsbD (lo : Nat) (w : Word) : BitVec.ofBool (w.getLsbD lo) = w.extractLsb' lo 1 := by
  apply BitVec.eq_of_getLsbD_eq
  intro i hi
  obtain rfl : i = 0 := by omega
  simp

theorem bitAt_getLsbD (lo : Nat) (w : Word) :
    bitAt lo (w.getLsbD lo) = w &&& fieldAt lo (BitVec.allOnes 1) := by
  rw [bitAt, ofBool_getLsbD, fieldAt_extractLsb']

theorem and_fullMask (w : Word) : w &&& 4294967295#32 = w := BitVec.and_allOnes

/-! ### One entry of a vector -/

theorem get_setIfInBounds {α : Type} {m : Nat} (xs : Vector α (2 ^ m)) (i j : BitVec m) (x : α) :
    (xs.setIfInBounds i.toNat x).get j.toFin = if j = i then x else xs.get j.toFin := by
  simp [Vector.get_eq_getElem, Vector.getElem_setIfInBounds, BitVec.toNat_inj, eq_comm]

theorem vendor_setVendor (c : RxConfig) (v k : BitVec 2) (x : Vendor) :
    (c.setVendor v x).vendor k = if k = v then x else c.vendor k := get_setIfInBounds (m := 2) c.vendors v k x

theorem plan_get_setIfInBounds (p : Vector PlanEntry 8) (e k : BitVec 3) (x : PlanEntry) :
    (p.setIfInBounds e.toNat x).get k.toFin = if k = e then x else p.get k.toFin :=
  get_setIfInBounds (m := 3) p e k x

/-! ### The stored word reads back -/

/-- A CFG word reads the bits last written to it, its reserved bits as 0 (R30). -/
theorem readCfg_storeCfg_same (r : CfgReg) (w : Word) (s : State) :
    readCfg r (storeCfg r w s) = w &&& cfgBits r := by
  cases r with
  | ntaps sid => simp [readCfg, storeCfg, updateStage, cfgBits, and_fullMask]
  | decim sid => simp [readCfg, storeCfg, updateStage, cfgBits, and_fullMask]
  | fs sid => simp [readCfg, storeCfg, updateStage, cfgBits, and_fullMask]
  | ftrans sid => simp [readCfg, storeCfg, updateStage, cfgBits, and_fullMask]
  | transEn sid => simp only [readCfg, storeCfg, updateStage, setStage_stage_self]; exact bitAt_getLsbD 0 w
  | syncPattern => exact (and_fullMask w).symm
  | syncWidth => exact fieldAt_extractLsb' 0 6 w
  | estNum => exact (and_fullMask w).symm
  | estDen => exact fieldAt_extractLsb' 0 16 w
  | chRange =>
    simp only [readCfg, storeCfg, chRangeWord, fieldAt_extractLsb', ← BitVec.and_or_distrib_left]
    rfl
  | chanVendor => exact (and_fullMask w).symm
  | poly v =>
    simp only [readCfg, storeCfg, updateVendor, vendor_setVendor, if_true, fieldAt_extractLsb']
    rfl
  | finalXor v =>
    simp only [readCfg, storeCfg, updateVendor, vendor_setVendor, if_true, fieldAt_extractLsb']
    rfl
  | planLen v =>
    simp only [readCfg, storeCfg, updateVendor, vendor_setVendor, if_true, fieldAt_extractLsb']
    rfl
  | plan v e =>
    simp only [readCfg, storeCfg, updateVendor, vendor_setVendor, plan_get_setIfInBounds, if_true, planWord,
      fieldAt_extractLsb', bitAt_getLsbD, ← BitVec.and_or_distrib_left]
    rfl
  | coef sid t => simp [readCfg, storeCfg, readRam, cfgBits, and_fullMask]
  | oscTab sid k l => simp [readCfg, storeCfg, readRam, cfgBits, and_fullMask]

/-! ### Every other word reads as before -/

/-- The bytes of two CFG words do not overlap. -/
def WordsApart (q r : CfgReg) : Prop :=
  regAddress (.cfg q) + 4 ≤ regAddress (.cfg r) ∨ regAddress (.cfg r) + 4 ≤ regAddress (.cfg q)

theorem WordsApart.ne {q r : CfgReg} (h : WordsApart q r) : q ≠ r := by
  rintro rfl
  unfold WordsApart at h
  omega

/-- Two different addresses of the map are aligned (20_memory.md R102), so their words do not overlap. -/
theorem wordsApart_of_regAt {a b : Addr} {q r : CfgReg} (hb : regAt b = some (.cfg q))
    (ha : regAt a = some (.cfg r)) (hne : b ≠ a) : WordsApart q r := by
  have haligned {c : Addr} {x : Reg} (h : regAt c = some x) : c.toNat % 4 = 0 := by
    by_contra hmis
    simp [regAt_misaligned hmis] at h
  have := haligned ha
  have := haligned hb
  have := (BitVec.toNat_inj (x := b) (y := a)).not.2 hne
  rw [WordsApart, regAt_address hb, regAt_address ha]
  omega

/-- A field of a stage is as before, unless the stage is the updated one and the update changes it. -/
theorem stage_updateStage {α : Type} (g : StageRegs → α) {sid k : StageId} {f : StageRegs → StageRegs}
    (s : State) (h : k = sid → ∀ r, g (f r) = g r) : g ((updateStage sid f s).stage k) = g (s.stage k) := by
  unfold updateStage
  rcases eq_or_ne k sid with rfl | hk
  · rw [setStage_stage_self, h rfl]
  · rw [setStage_stage_other s _ hk]

theorem vendor_updateVendor {α : Type} (g : Vendor → α) {v k : BitVec 2} {f : Vendor → Vendor} (s : State)
    (h : k = v → ∀ x, g (f x) = g x) : g ((updateVendor v f s).cfg.vendor k) = g (s.cfg.vendor k) := by
  simp only [updateVendor, vendor_setVendor]
  split
  · rename_i hk
    rw [h hk, hk]
  · rfl

/-- A CFG word reads as before an update of stage `sid` that does not change the field it is made of; that an
update leaves the other fields is found by unfolding it. -/
theorem readCfg_updateStage {q : CfgReg} {sid : StageId} {f : StageRegs → StageRegs} (s : State)
    (hntaps : q = .ntaps sid → ∀ r, (f r).ntaps = r.ntaps := by intros; rfl)
    (hdecim : q = .decim sid → ∀ r, (f r).decim = r.decim := by intros; rfl)
    (hfs : q = .fs sid → ∀ r, (f r).fs = r.fs := by intros; rfl)
    (hftrans : q = .ftrans sid → ∀ r, (f r).ftrans = r.ftrans := by intros; rfl)
    (htransEn : q = .transEn sid → ∀ r, (f r).transEn = r.transEn := by intros; rfl) :
    readCfg q (updateStage sid f s) = readCfg q s := by
  cases q with
  | ntaps k => exact stage_updateStage StageRegs.ntaps s fun e => hntaps (e ▸ rfl)
  | decim k => exact stage_updateStage StageRegs.decim s fun e => hdecim (e ▸ rfl)
  | fs k => exact stage_updateStage StageRegs.fs s fun e => hfs (e ▸ rfl)
  | ftrans k => exact stage_updateStage StageRegs.ftrans s fun e => hftrans (e ▸ rfl)
  | transEn k => exact congrArg (bitAt 0) (stage_updateStage StageRegs.transEn s fun e => htransEn (e ▸ rfl))
  | _ => simp only [readCfg, readRam, updateStage, setStage_cfg, setStage_mem, setStage_epoch]

theorem readCfg_updateVendor {q : CfgReg} {v : BitVec 2} {f : Vendor → Vendor} (s : State)
    (hpoly : q = .poly v → ∀ x, (f x).poly = x.poly := by intros; rfl)
    (hxor : q = .finalXor v → ∀ x, (f x).finalXor = x.finalXor := by intros; rfl)
    (hlen : q = .planLen v → ∀ x, (f x).planLen = x.planLen := by intros; rfl)
    (hplan : ∀ e, q = .plan v e → ∀ x, (f x).plan.get e.toFin = x.plan.get e.toFin := by intros; rfl) :
    readCfg q (updateVendor v f s) = readCfg q s := by
  cases q with
  | poly k => exact congrArg (fieldAt 0) (vendor_updateVendor Vendor.poly s fun e => hpoly (e ▸ rfl))
  | finalXor k => exact congrArg (fieldAt 0) (vendor_updateVendor Vendor.finalXor s fun e => hxor (e ▸ rfl))
  | planLen k => exact congrArg (fieldAt 0) (vendor_updateVendor Vendor.planLen s fun e => hlen (e ▸ rfl))
  | plan k e =>
    exact congrArg planWord (vendor_updateVendor (fun x => x.plan.get e.toFin) s fun h => hplan e (h ▸ rfl))
  | _ => rfl

theorem readRam_writeWord_other (s : State) {a b : Nat} (w : Word) (h : b + 4 ≤ a ∨ a + 4 ≤ b) :
    readRam { s with mem := s.mem.writeWord a w } b = readRam s b := by
  rw [readRam, readWord_writeWord_other _ _ _ _ h, readRam]

theorem readCfg_writeWord {q : CfgReg} (s : State) {a : Nat} (w : Word)
    (h : regAddress (.cfg q) + 4 ≤ a ∨ a + 4 ≤ regAddress (.cfg q)) :
    readCfg q { s with mem := s.mem.writeWord a w } = readCfg q s := by
  cases q with
  | coef sid t => exact readRam_writeWord_other s w h
  | oscTab sid k l => exact readRam_writeWord_other s w h
  | _ => rfl

theorem readCfg_storeCfg_other {q r : CfgReg} (h : WordsApart q r) (w : Word) (s : State) :
    readCfg q (storeCfg r w s) = readCfg q s := by
  have hne := h.ne
  have hother {p : Prop} (e : q = r) : p := absurd e hne
  cases r with
  | ntaps sid => exact readCfg_updateStage s (hntaps := hother)
  | decim sid => exact readCfg_updateStage s (hdecim := hother)
  | fs sid => exact readCfg_updateStage s (hfs := hother)
  | ftrans sid => exact readCfg_updateStage s (hftrans := hother)
  | transEn sid => exact readCfg_updateStage s (htransEn := hother)
  | poly v => exact readCfg_updateVendor s (hpoly := hother)
  | finalXor v => exact readCfg_updateVendor s (hxor := hother)
  | planLen v => exact readCfg_updateVendor s (hlen := hother)
  | plan v e =>
    have hentry : ∀ k, q = .plan v k → k ≠ e := by
      rintro k hk rfl
      exact hne hk
    exact readCfg_updateVendor s (hplan := fun k hk x =>
      (plan_get_setIfInBounds x.plan e k _).trans (if_neg (hentry k hk)))
  | coef sid t => exact readCfg_writeWord s w h
  | oscTab sid k l => exact readCfg_writeWord s w h
  | syncPattern => cases q with
    | syncPattern => exact absurd rfl hne
    | _ => rfl
  | syncWidth => cases q with
    | syncWidth => exact absurd rfl hne
    | _ => rfl
  | estNum => cases q with
    | estNum => exact absurd rfl hne
    | _ => rfl
  | estDen => cases q with
    | estDen => exact absurd rfl hne
    | _ => rfl
  | chRange => cases q with
    | chRange => exact absurd rfl hne
    | _ => rfl
  | chanVendor => cases q with
    | chanVendor => exact absurd rfl hne
    | _ => rfl

/-! ### The accepted write -/

/-- CONFIGURED is no part of a CFG word. -/
theorem readCfg_writeCfg (q r : CfgReg) (w : Word) (s : State) :
    readCfg q (writeCfg r w s) = readCfg q (storeCfg r w s) := by
  cases q <;> rfl

theorem writeCfg_stage (r : CfgReg) (w : Word) (s : State) (sid : StageId) :
    (writeCfg r w s).stage sid = (storeCfg r w s).stage sid := by
  cases sid <;> rfl

theorem writeCfg_ctrl (r : CfgReg) (w : Word) (s : State) :
    (writeCfg r w s).ctrl = { s.ctrl with configured := false } := by
  rw [writeCfg, storeCfg_frame]

/-- An accepted CFG write touches CTRL, the configuration and the RAM words alone (20_memory.md R105). -/
theorem writeCfg_frame (r : CfgReg) (w : Word) (s : State) :
    writeCfg r w s =
      { s with
        ctrl := (writeCfg r w s).ctrl, stage0 := (writeCfg r w s).stage0, stage1 := (writeCfg r w s).stage1
        stage2 := (writeCfg r w s).stage2, cfg := (writeCfg r w s).cfg, mem := (writeCfg r w s).mem } := by
  have hframe := congrArg (fun u : State => { u with ctrl := (writeCfg r w s).ctrl }) (storeCfg_frame r w s)
  exact hframe

theorem busWrite_cfg_running {a : Addr} {r : CfgReg} {s : State} (h : regAt a = some (.cfg r))
    (hrun : s.ctrl.run = true) (w : Word) :
    busWrite a w 0xF s = .next { s with busOut := some (.write .error) } := by
  simp [busWrite, h, hrun, respond]

theorem busWrite_cfg_stopped {a : Addr} {r : CfgReg} {s : State} (h : regAt a = some (.cfg r))
    (hrun : s.ctrl.run = false) (w : Word) :
    busWrite a w 0xF s = .next (writeCfg r w { s with busOut := some (.write .okay) }) := by
  simp [busWrite, h, hrun, respond]

/-- Settles O52: refused while RUN = 1, else the stored word with its frame. -/
theorem cfgWriteStoresItsBitsAndUnconfigures : Obligations.CfgWriteStoresItsBitsAndUnconfigures := by
  intro s a w r ha
  refine ⟨fun hrun => busWrite_cfg_running ha hrun w, fun hrun => ?_⟩
  refine ⟨_, busWrite_cfg_stopped ha hrun w, writeCfg_busOut r w _, ?_, writeCfg_ctrl r w _,
    fun b q hb hne => ?_, ?_, fun sid => ?_⟩
  · exact (readCfg_writeCfg r r w _).trans (readCfg_storeCfg_same r w _)
  · calc
      _ = readCfg q (storeCfg r w _) := readCfg_writeCfg q r w _
      _ = readCfg q _ := readCfg_storeCfg_other (wordsApart_of_regAt hb ha hne) w _
      _ = readCfg q s := readReg_busOut (.cfg q) s _
  · rw [writeCfg_busOut]
    exact writeCfg_frame r w _
  · obtain ⟨hoscN, hoscIdx, hdcnt, hstamps⟩ := storeCfg_stage r w _ sid
    rw [writeCfg_stage]
    exact ⟨hoscN, hoscIdx, hdcnt, hstamps, storeCfg_live r w _ sid⟩

end Sys2Proof.Proofs
end

section
/-! PROOFS. The decoder and the encoder (30_encoding.md R130 to R135): a command word is the fixed bits of its
row of the opcode map with the operand bits beside them, and each of the two functions keeps both parts. A
word the decoder rejects leaves only its record (45_control.md R341). -/

namespace Sys2Proof.Proofs

open Sys2Proof Sys2Proof.Machine Sys2Proof.Claims Sys2Proof.Laws.RowMatch

/-! ### A row of the opcode map -/

/-- Every command's word carries its row's fixed bits, the constructors' laws put together (R134). -/
theorem encode_and_mask (i : Instr) : encode i &&& (row i).2 = (row i).1 := by
  cases i with
  | nop => exact nop
  | configure => exact configure
  | pipePush => exact pipePush
  | rxPushLevel lvl => exact rxPushLevel lvl
  | rxAbort => exact rxAbort
  | oscNext sel => exact oscNext sel
  | filtCompute sel => exact filtCompute sel
  | trkExtend => exact trkExtend
  | trkStartSymbol => exact trkStartSymbol
  | trkCount => exact trkCount
  | trkLockAvg => exact trkLockAvg
  | trkResetAvg => exact trkResetAvg
  | manAdd lvl => exact manAdd lvl
  | manPopAll => exact manPopAll
  | manSize => exact manSize
  | manReset => exact manReset
  | crcPush n acc => exact crcPush n acc
  | crcFinalize => exact crcFinalize
  | crcReset => exact crcReset
  | crcSelect sel => exact crcSelect sel

/-- The opcode bits are fixed in every row (R130). -/
theorem opcField_and_mask (w : Word) (i : Instr) : opcField (w &&& (row i).2) = opcField w := by
  have hfixed : opcField (row i).2 = BitVec.allOnes 8 := by cases i <;> dsimp only [row] <;> rfl
  rw [opcField] at hfixed
  rw [opcField, BitVec.extractLsb'_and, hfixed, BitVec.and_allOnes, opcField]

theorem opcField_encode (i : Instr) : opcField (encode i) = opcField (row i).1 := by
  rw [← opcField_and_mask, encode_and_mask]

/-- One command of each row, in the order of the opcode map. -/
def rowCommands : List Instr :=
  [.nop, .configure, .pipePush, .rxPushLevel false, .rxAbort, .oscNext 0, .filtCompute 0, .trkExtend,
    .trkStartSymbol, .trkCount, .trkLockAvg, .trkResetAvg, .manAdd false, .manPopAll, .manSize, .manReset,
    .crcPush 0 false, .crcFinalize, .crcReset, .crcSelect 0]

theorem rowCommands_opcodes : rowCommands.map (fun i => (opcField (row i).1).toNat) = opcodes := by decide

/-- Every listed opcode is that of a row. -/
theorem exists_row_of_listed {c : BitVec 8} (h : c.toNat ∈ opcodes) : ∃ i, c = opcField (row i).1 := by
  rw [← rowCommands_opcodes, List.mem_map] at h
  obtain ⟨i, -, hi⟩ := h
  exact ⟨i, BitVec.eq_of_toNat_eq hi.symm⟩

/-! ### The operands a word gives a command -/

/-- The command of `i`'s row with its operands read from `w` (R132). -/
def operandsFrom (w : Word) : Instr → Instr
  | .rxPushLevel _ => .rxPushLevel (lvlField w)
  | .manAdd _ => .manAdd (lvlField w)
  | .oscNext _ => .oscNext (selField w)
  | .filtCompute _ => .filtCompute (selField w)
  | .crcSelect _ => .crcSelect (selField w)
  | .crcPush _ _ => .crcPush (nField w) (accField w)
  | i => i

/-- Encoding takes the row's fixed bits, and the bits beside them from the word the operands were read from. -/
theorem encode_operandsFrom (w : Word) (i : Instr) :
    encode (operandsFrom w i) = (row i).1 ||| (w &&& ~~~(row i).2) := by
  have hlvl (p : Word) : p ||| bitAt 0 (lvlField w) = p ||| (w &&& ~~~0xFFFFFFFE) := by
    rw [lvlField, bitAt_getLsbD]
    rfl
  have hsel (p : Word) : p ||| fieldAt 16 (selField w) = p ||| (w &&& ~~~0xFFFCFFFF) := by
    rw [selField, fieldAt_extractLsb']
    rfl
  cases i with
  | rxPushLevel _ => exact hlvl _
  | manAdd _ => exact hlvl _
  | oscNext _ => exact hsel _
  | filtCompute _ => exact hsel _
  | crcSelect _ => exact hsel _
  | crcPush _ _ =>
    rw [operandsFrom, encode, accField, nField, bitAt_getLsbD, fieldAt_extractLsb', BitVec.or_assoc,
      ← BitVec.and_or_distrib_left, row]
    rfl
  | _ => simp [operandsFrom, encode, row]

/-- Each operand field reads what the encoder put there. -/
theorem operandsFrom_encode (i : Instr) : operandsFrom (encode i) i = i := by
  cases i with
  | rxPushLevel lvl => cases lvl <;> rfl
  | manAdd lvl => cases lvl <;> rfl
  | oscNext sel => revert sel; decide
  | filtCompute sel => revert sel; decide
  | crcSelect sel => revert sel; decide
  | crcPush n acc => revert n acc; decide
  | _ => rfl

/-! ### The decoder by the row its opcode selects -/

/-- A listed opcode selects its row, with the operands read from the word (R133). -/
theorem decode_of_opcode {w : Word} {i : Instr} (h : opcField w = opcField (row i).1) :
    decode w = matchRow (row i).1 (row i).2 w (operandsFrom w i) := by
  unfold decode
  rw [h]
  cases i <;> dsimp only [row] <;> rfl

theorem decode_unlisted {w : Word} (h : (opcField w).toNat ∉ opcodes) : decode w = .error .badOpcode := by
  unfold decode
  split
  case h_21 => rfl
  all_goals
    rename_i hopc
    exact absurd (hopc ▸ by decide) h

theorem matchRow_cases (p m w : Word) (i : Instr) :
    (w &&& m = p ∧ i.WellFormed = true ∧ matchRow p m w i = .ok i) ∨
      matchRow p m w i = .error .badOperand := by
  unfold matchRow
  split_ifs with hfixed hwf
  · exact .inl ⟨hfixed, hwf, rfl⟩
  · exact .inr rfl
  · exact .inr rfl

/-- Everything the decoder can answer (R135): an unlisted opcode is named first; under a listed one the word is
the encoding of a well-formed command, or it is BAD_OPERAND. -/
theorem decode_cases (w : Word) :
    ((opcField w).toNat ∉ opcodes ∧ decode w = .error .badOpcode) ∨
      ((opcField w).toNat ∈ opcodes ∧
        ((∃ i, decode w = .ok i ∧ encode i = w ∧ i.WellFormed = true) ∨ decode w = .error .badOperand)) := by
  by_cases hlisted : (opcField w).toNat ∈ opcodes
  · obtain ⟨i, hopc⟩ := exists_row_of_listed hlisted
    rw [decode_of_opcode hopc]
    refine .inr ⟨hlisted, (matchRow_cases _ _ w (operandsFrom w i)).imp_left ?_⟩
    rintro ⟨hfixed, hwf, hok⟩
    refine ⟨_, hok, ?_, hwf⟩
    calc
      encode (operandsFrom w i) = (row i).1 ||| (w &&& ~~~(row i).2) := encode_operandsFrom w i
      _ = w &&& (row i).2 ||| (w &&& ~~~(row i).2) := by rw [hfixed]
      _ = w := by rw [← BitVec.and_or_distrib_left, BitVec.or_not_self, BitVec.and_allOnes]
  · exact .inl ⟨hlisted, decode_unlisted hlisted⟩

/-! ### The round trips and the rejections -/

/-- Settles O1: the encoded word selects the command's row, whose check it passes with the operands read back. -/
theorem decodeOfEncodeIsTheCommand : Obligations.DecodeOfEncodeIsTheCommand := by
  intro i hwf
  rw [decode_of_opcode (opcField_encode i), operandsFrom_encode, matchRow, if_pos (encode_and_mask i), if_pos hwf]

/-- Settles O2: the one accepting outcome of `decode_cases`. -/
theorem encodeOfDecodeIsTheWord : Obligations.EncodeOfDecodeIsTheWord := by
  intro w i h
  rcases decode_cases w with ⟨-, hbad⟩ | ⟨-, ⟨j, hok, hj⟩ | hbad⟩
  · cases hbad.symm.trans h
  · cases hok.symm.trans h
    exact hj
  · cases hbad.symm.trans h

/-- Settles O3: the three outcomes of `decode_cases`, of which the accepting one needs a well-formed command
with this word. -/
theorem rejectionIsNamedByOpcodeFirst : Obligations.RejectionIsNamedByOpcodeFirst := by
  intro w
  rcases decode_cases w with ⟨hopc, hbad⟩ | ⟨hopc, ⟨i, hok, hword, hwf⟩ | hbad⟩
  · exact ⟨iff_of_true hbad hopc, fun hlisted => absurd hlisted hopc⟩
  · refine ⟨iff_of_false ?_ (not_not_intro hopc), fun _ hnone => absurd hword (hnone i hwf)⟩
    rw [hok]
    nofun
  · refine ⟨iff_of_false ?_ (not_not_intro hopc), fun _ _ => hbad⟩
    rw [hbad]
    nofun

/-- Settles O4: each word is the encoding of its command (R134). -/
theorem writtenOutWordsDecode : Obligations.WrittenOutWordsDecode := by
  have henc (i : Instr) (hwf : i.WellFormed = true) : decode (encode i) = .ok i :=
    decodeOfEncodeIsTheCommand i hwf
  exact ⟨henc .configure rfl, henc (.rxPushLevel true) rfl, henc (.filtCompute 2) rfl, henc .trkCount rfl,
    henc (.manAdd false) rfl, henc (.crcPush 32 true) rfl, henc (.crcSelect 3) rfl⟩

/-! ### A command word on the bus -/

/-- The host's turn with a full-width write to CMD next is `CmdWrite` with an OKAY response (45_control.md
R340). -/
theorem step_cmd_write {s : State} {w : Word} {ts : List Turn} {ops : List BusOp} (hturn : s.turns = .host :: ts)
    (hbus : s.bus = .write 0x020 w 0xF :: ops) :
    step s = cmdWrite w { s with turns := ts, bus := ops, busOut := some (.write .okay), msgOut := none } := by
  simp only [step, stepOnce, hturn, takeTurn, hostTurn, quiet, hbus, busAccess, busWrite_rw regAt_cmd, writeRw]

theorem cmdWrite_rejected {w : Word} {e : DecodeError} (h : decode w = .error e) (s : State) :
    cmdWrite w s = .next (cmdError (decodeErrorCode e) (latchCommand w s)) := by
  rw [cmdWrite, h]

/-- Settles O6: `CmdError` after the latch, with the completion code of either rejection. -/
theorem rejectedWordLeavesOnlyItsRecord : Obligations.RejectedWordLeavesOnlyItsRecord := by
  intro s w e ts ops hturn hbus hrejected
  rw [step_cmd_write hturn hbus, cmdWrite_rejected hrejected]
  cases e <;> rfl

end Sys2Proof.Proofs
end

section
/-! PROOFS. The oscillator (40_filter.md R170 to R173): the period CONFIGURE computes, and the entries that
successive OSC_NEXT commands return. -/

namespace Sys2Proof.Proofs

open Sys2Proof Sys2Proof.Machine Sys2Proof.Claims

/-! ### The period -/

theorem toNat_pos_of_ne_zero {w : Word} (h : w ≠ 0) : 0 < w.toNat :=
  Nat.pos_of_ne_zero fun hzero => h (BitVec.eq_of_toNat_eq hzero)

/-- The accumulated phase of `n` samples is a whole number of turns exactly if the period divides `n` (R170). -/
theorem oscPeriod_dvd_iff {r : StageRegs} (hfs : 0 < r.fs.toNat) (n : Nat) :
    oscPeriod r ∣ n ↔ n * freqMagnitude r % r.fs.toNat = 0 := by
  rw [← Nat.dvd_iff_mod_eq_zero]
  constructor
  · rintro ⟨q, rfl⟩
    have hfs_dvd : r.fs.toNat ∣ oscPeriod r * freqMagnitude r := by
      have hgcd : oscPeriod r * Nat.gcd r.fs.toNat (freqMagnitude r) = r.fs.toNat :=
        Nat.div_mul_cancel (Nat.gcd_dvd_left _ _)
      conv_lhs => rw [← hgcd]
      exact Nat.mul_dvd_mul_left _ (Nat.gcd_dvd_right _ _)
    rw [Nat.mul_right_comm]
    exact hfs_dvd.mul_right q
  · intro hdvd
    have hzero : n * freqMagnitude r ≡ 0 * freqMagnitude r [MOD r.fs.toNat] := by
      rw [Nat.zero_mul]
      exact (Nat.modEq_zero_iff_dvd).2 hdvd
    exact (Nat.modEq_zero_iff_dvd).1 (hzero.cancel_right_div_gcd hfs)

theorem oscPeriod_pos {r : StageRegs} (hfs : 0 < r.fs.toNat) : 0 < oscPeriod r :=
  Nat.div_pos (Nat.gcd_le_left _ hfs) (Nat.gcd_pos_of_pos_left _ hfs)

/-- Settles O11: the sample counts after which the phase comes round are the multiples of the period. -/
theorem oscillatorPeriodIsTheSmallest : Obligations.OscillatorPeriodIsTheSmallest := by
  intro r hne
  have hfs : 0 < r.fs.toNat := toNat_pos_of_ne_zero hne
  exact ⟨⟨oscPeriod_pos hfs, (oscPeriod_dvd_iff hfs _).1 dvd_rfl⟩,
    fun n ⟨hpos, hturns⟩ => Nat.le_of_dvd hpos ((oscPeriod_dvd_iff hfs n).2 hturns)⟩

/-! ### One call -/

/-- OscNext's entry where the lanes the stage reads are written (10_state.md R44). -/
theorem oscEntry_ok {mem : Memory} {sid : StageId} {k : Nat} {c im : F32}
    (hfirst : mem.readWord (oscAddr sid k .first) = some c)
    (hsecond : sid = .s0 → mem.readWord (oscAddr sid k .second) = some im) :
    oscEntry mem sid k = .ok (c, if sid = .s0 then im else 0) := by
  cases sid with
  | s0 => simp [oscEntry, hfirst, hsecond rfl]
  | s1 => simp [oscEntry, hfirst]
  | s2 => simp [oscEntry, hfirst]

/-- The second lane as the datapath takes it: `.s` in stage 0, nothing in stages 1 and 2 (R172). -/
def secondLane (s : State) (sid : StageId) (k : Nat) : F32 := if sid = .s0 then osc s sid k .second else 0

/-- A word of OSC_TAB that is written holds what `osc` says. -/
theorem readWord_osc {s : State} {sid : StageId} {k : Nat} {l : Lane}
    (h : (s.mem.readWord (oscAddr sid k l)).isSome) : s.mem.readWord (oscAddr sid k l) = some (osc s sid k l) := by
  obtain ⟨w, hw⟩ := Option.isSome_iff_exists.1 h
  rw [osc, hw, Option.getD_some]

theorem oscEntry_of_written {s : State} {sid : StageId} {k : Nat}
    (h : ∀ l, l = .first ∨ sid = .s0 → (s.mem.readWord (oscAddr sid k l)).isSome) :
    oscEntry s.mem sid k = .ok (osc s sid k .first, secondLane s sid k) :=
  oscEntry_ok (readWord_osc (h .first (.inl rfl))) fun hsid => readWord_osc (h .second (.inr hsid))

/-- A paused OSC_NEXT on a stage with translation answers the entry at the phase index and moves the index
(R194). -/
theorem execOscNext_ok {s : State} {sel : BitVec 2} {sid : StageId} {w : F32 × F32} (hp : s.Paused)
    (hsel : sel.toNat = sid.num) (ht : (s.stage sid).transEn = true)
    (hw : oscEntry s.mem sid (s.stage sid).oscIdx.toNat = .ok w) :
    exec (.oscNext sel) s =
      .next { s.setStage sid { s.stage sid with oscIdx := nextPhase (s.stage sid) } with
        cmd := results s w.1 w.2 true } := by
  have he : exec (.oscNext sel) s = execOscNext sel s := rfl
  have hosc : oscNext s.mem sid (s.stage sid) = .ok (w, oscAdvance (s.stage sid)) := by rw [oscNext, hw]
  simp only [he, execOscNext, stageOfSel_of_num hsel]
  rw [component_paused hp.1 hp.2, if_pos ht, hosc]
  cases sid <;> rfl

/-- Settles O15: the entry at the phase index is the one the hypotheses give. -/
theorem oscNextReturnsTheEntryAndAdvances : Obligations.OscNextReturnsTheEntryAndAdvances :=
  fun _ _ _ _ _ hp hsel ht hfirst hsecond => execOscNext_ok hp hsel ht (oscEntry_ok hfirst hsecond)

/-! ### Calls in a row -/

theorem repeatExec_succ_last {i : Instr} {n : Nat} {s t u : State} (h : repeatExec i n s = some t)
    (hlast : exec i t = .next u) : repeatExec i (n + 1) s = some u := by
  induction n generalizing s with
  | zero =>
    cases h
    simp [repeatExec, hlast]
  | succ n ih =>
    rw [repeatExec] at h ⊢
    cases hfirst : exec i s with
    | next v =>
      rw [hfirst] at h
      exact ih h
    | fault f => simp [hfirst] at h
    | refused r => simp [hfirst] at h

/-- The induction over a command's repetitions: what holds before the first, and after each if before it, holds
after any number, and none of them stops. -/
theorem repeatExec_induction {i : Instr} {s : State} (P : Nat → State → Prop) (hstart : P 0 s)
    (hstep : ∀ j t, P j t → ∃ u, exec i t = .next u ∧ P (j + 1) u) (n : Nat) :
    ∃ t, repeatExec i n s = some t ∧ P n t := by
  induction n with
  | zero => exact ⟨s, rfl, hstart⟩
  | succ n ih =>
    obtain ⟨t, hrun, ht⟩ := ih
    obtain ⟨u, hexec, hu⟩ := hstep n t ht
    exact ⟨u, repeatExec_succ_last hrun hexec, hu⟩

theorem nextPhase_toNat {r : StageRegs} (h : r.oscN ≠ 0) :
    (nextPhase r).toNat = (r.oscIdx.toNat + 1) % r.oscN.toNat := by
  have hpos : 0 < r.oscN.toNat := toNat_pos_of_ne_zero h
  have hlt := Nat.mod_lt (r.oscIdx.toNat + 1) hpos
  rw [nextPhase, BitVec.toNat_ofNat, Nat.mod_eq_of_lt (hlt.trans r.oscN.isLt)]

theorem stage_setStage_cmd (s : State) (sid : StageId) (r : StageRegs) (c : CmdRegs) :
    ({ s.setStage sid r with cmd := c } : State).stage sid = r := by
  cases sid <;> rfl

/-- After `j` calls of OSC_NEXT from `s` the phase index of the stage is `j mod OSC_N`, with all else that the
next call depends on as it was in `s`. -/
structure AfterOscNext (s : State) (sid : StageId) (j : Nat) (t : State) : Prop where
  paused : t.Paused
  mem : t.mem = s.mem
  stage : t.stage sid = { s.stage sid with oscIdx := (t.stage sid).oscIdx }
  phase : (t.stage sid).oscIdx.toNat = j % (s.stage sid).oscN.toNat

/-- The call after `j` calls returns entry `j mod OSC_N`. -/
theorem AfterOscNext.step {s t : State} {sel : BitVec 2} {sid : StageId} {j : Nat} (h : AfterOscNext s sid j t)
    (hsel : sel.toNat = sid.num) (htrans : (s.stage sid).transEn = true) (hN : (s.stage sid).oscN ≠ 0)
    (hwritten : s.StageTablesWritten sid) :
    ∃ u, exec (.oscNext sel) t = .next u ∧ AfterOscNext s sid (j + 1) u ∧
      u.cmd = results t (osc s sid (j % (s.stage sid).oscN.toNat) .first)
        (secondLane s sid (j % (s.stage sid).oscN.toNat)) true := by
  obtain ⟨hpaused, hmem, hstage, hphase⟩ := h
  have hpos : 0 < (s.stage sid).oscN.toNat := toNat_pos_of_ne_zero hN
  have htN : (t.stage sid).oscN = (s.stage sid).oscN := by rw [hstage]
  have htTrans : (t.stage sid).transEn = true := by rw [hstage]; exact htrans
  have hentry : oscEntry t.mem sid (t.stage sid).oscIdx.toNat = .ok (osc s sid (j % (s.stage sid).oscN.toNat) .first,
      secondLane s sid (j % (s.stage sid).oscN.toNat)) := by
    rw [hmem, hphase]
    exact oscEntry_of_written (hwritten.2 htrans _ (Nat.mod_lt _ hpos))
  refine ⟨_, execOscNext_ok hpaused hsel htTrans hentry, ⟨?_, ?_, ?_, ?_⟩, rfl⟩
  · cases sid <;> exact hpaused
  · cases sid <;> exact hmem
  · rw [stage_setStage_cmd, hstage]
  · rw [stage_setStage_cmd, nextPhase_toNat (htN ▸ hN), htN, hphase, Nat.mod_add_mod]

/-- Settles O16: `j` calls move the phase index to `j mod OSC_N`, where the next call reads. -/
theorem oscNextSequenceIsPeriodic : Obligations.OscNextSequenceIsPeriodic := by
  intro s sel sid hp hsel htrans hidx hN hwritten j
  have hstart : AfterOscNext s sid 0 s := ⟨hp, rfl, rfl, by rw [hidx]; simp⟩
  have hstep := fun j t (h : AfterOscNext s sid j t) => h.step hsel htrans hN hwritten
  obtain ⟨t, hrun, ht⟩ := repeatExec_induction (AfterOscNext s sid) hstart
    (fun j t h => (hstep j t h).imp fun _ hu => ⟨hu.1, hu.2.1⟩) j
  obtain ⟨u, hexec, -, hcmd⟩ := hstep j t ht
  refine ⟨u, repeatExec_succ_last hrun hexec, ?_⟩
  rw [hcmd]
  exact ⟨rfl, rfl, rfl, fun hsid => if_pos hsid⟩

end Sys2Proof.Proofs
end

section
/-! PROOFS. The binary32 facts of the filter (00_scope.md R16, 40_filter.md R180, R186): the sign of a magnitude,
and the product with 1.0. -/

namespace Sys2Proof.Proofs

open Sys2Proof Sys2Proof.Machine Sys2Proof.Claims

/-! ### The parts of a pattern -/

/-- The sign bit and the magnitude bits make up the pattern. -/
theorem packSign_signBit (x : F32) : packSign (signBit x) (x.toNat % 2 ^ 31) = x := by
  apply BitVec.eq_of_toNat_eq
  rw [packSign_toNat _ (Nat.mod_lt _ (by norm_num)), signBit_eq]
  have hx := x.isLt
  by_cases hs : 2 ^ 31 ≤ x.toNat
  · simp only [hs, decide_true, if_true]
    omega
  · simp only [hs, decide_false, Bool.false_eq_true, if_false]
    omega

/-- An infinity keeps its sign, and its pattern is the one `infinity` makes. -/
theorem classify_inf {x : F32} {neg : Bool} (h : classify x = .inf neg) : neg = signBit x ∧ infinity neg = x := by
  unfold classify at h
  split_ifs at h with hexp hfrac
  cases h
  refine ⟨rfl, ?_⟩
  rw [expField_eq] at hexp
  rw [fracField_eq] at hfrac
  have hmag : x.toNat % 2 ^ 31 = 0x7F800000 := by omega
  rw [infinity, ← hmag, packSign_signBit]

/-- What the number of a finite pattern is made of: its magnitude bits are those of the exponent and the
significand, which has 24 bits, or fewer at the exponent of the subnormals. -/
structure FiniteParts (x : F32) (neg : Bool) (m : Nat) (e : Int) : Prop where
  sign : neg = signBit x
  low : -149 ≤ e
  significand : m < 2 ^ 24
  subnormal : m < 2 ^ 23 → e = -149
  magnitude : (e + 149).toNat * 2 ^ 23 + m = x.toNat % 2 ^ 31
  finite : x.toNat % 2 ^ 31 < 0x7F800000

theorem classify_fin {x : F32} {neg : Bool} {m : Nat} {e : Int} (h : classify x = .fin neg m e) :
    FiniteParts x neg m e := by
  unfold classify at h
  have hexp := expField_eq x
  have hfrac := fracField_eq x
  split_ifs at h with h255 h0 h0 <;> cases h
  · exact ⟨rfl, by omega, by omega, fun _ => rfl, by omega, by omega⟩
  · exact ⟨rfl, by omega, by omega, by omega, by omega, by omega⟩

/-! ### The sign of a magnitude -/

/-- A NaN, or a number without a minus sign. -/
def NeverNegative (a : F32) : Prop := isNaN a = true ∨ signBit a = false

theorem neverNegative_orNaN {op : Config.FloatOp} {a b : F32} {r : Option F32}
    (h : ∀ v, r = some v → signBit v = false) : NeverNegative (orNaN op a b r) := by
  cases r with
  | none => exact .inl (isNaN_orNaN_none op a b)
  | some v => exact .inr (h v rfl)

theorem NeverNegative.classify_cases {a : F32} (h : NeverNegative a) :
    classify a = .nan ∨ classify a = .inf false ∨ ∃ m e, classify a = .fin false m e := by
  rcases h with hnan | hsign
  · exact .inl ((classify_eq_nan_iff a).2 hnan)
  · rw [← hsign]
    cases hc : classify a with
    | nan => exact .inl rfl
    | inf neg => rw [(classify_inf hc).1]; exact .inr (.inl rfl)
    | fin neg m e => rw [(classify_fin hc).sign]; exact .inr (.inr ⟨m, e, rfl⟩)

/-- A square has the sign of equal signs. -/
theorem neverNegative_square (a : F32) : NeverNegative (fmul a a) := by
  refine neverNegative_orNaN fun v hv => ?_
  unfold mulCore at hv
  cases hc : classify a with
  | nan => simp [hc] at hv
  | inf neg =>
    simp only [hc, Bool.xor_self, Option.some.injEq] at hv
    rw [← hv, signBit_infinity]
  | fin neg m e =>
    simp only [hc, Bool.xor_self, Option.some.injEq] at hv
    rw [← hv, signBit_roundPack]

theorem signBit_addFinite_of_nonneg (m1 m2 : Nat) (e1 e2 : Int) :
    signBit (addFinite false m1 e1 false m2 e2) = false := by
  unfold addFinite
  simp only [signedInt, Bool.false_eq_true, if_false, Bool.and_self]
  split_ifs with hzero
  · exact signBit_packSign false (by norm_num)
  · rw [signBit_roundPack, decide_eq_false_iff_not]
    omega

/-- A sum of numbers without a minus sign is exact, then rounded, or an infinity, both without one. -/
theorem neverNegative_fadd {a b : F32} (ha : NeverNegative a) (hb : NeverNegative b) : NeverNegative (fadd a b) := by
  refine neverNegative_orNaN fun v hv => ?_
  unfold addCore at hv
  rcases ha.classify_cases with ha | ha | ⟨m1, e1, ha⟩ <;>
    rcases hb.classify_cases with hb | hb | ⟨m2, e2, hb⟩ <;> rw [ha, hb] at hv <;> cases hv
  · exact signBit_infinity false
  · exact signBit_infinity false
  · exact signBit_infinity false
  · exact signBit_addFinite_of_nonneg m1 m2 e1 e2

/-- The root of −0 is −0, and no other root has a minus sign. -/
theorem neverNegative_fsqrt {a : F32} (ha : NeverNegative a) : NeverNegative (fsqrt a) := by
  rcases ha with hnan | hsign
  · exact .inl (isNaN_fsqrt_of_nan hnan)
  refine neverNegative_orNaN fun v hv => ?_
  unfold sqrtCore at hv
  rcases NeverNegative.classify_cases (.inr hsign) with hc | hc | ⟨m, e, hc⟩ <;>
    simp only [hc, Bool.false_eq_true, if_false] at hv
  · cases hv
  · cases hv
    exact hsign
  · split_ifs at hv <;> cases hv
    · exact hsign
    · exact signBit_roundPack false _ _

/-- Settles O22: the magnitude is the root of a sum of two squares. -/
theorem magnitudeIsNeverNegative : Obligations.MagnitudeIsNeverNegative := fun x =>
  neverNegative_fsqrt (neverNegative_fadd (neverNegative_square x.re) (neverNegative_square x.im))

/-! ### The product with 1.0 -/

theorem classify_one : classify 0x3F800000 = .fin false (2 ^ 23) (-23) := by decide

/-- The bits of a nonzero significand, scaled by `2^23`. -/
theorem log2_scaled {m : Nat} (hm : m ≠ 0) : Nat.log2 (2 ^ 23 * m) = 23 + Nat.log2 m := by
  rw [Nat.log2_eq_iff (by omega), Nat.add_assoc, Nat.pow_add, Nat.pow_add _ 23]
  exact ⟨Nat.mul_le_mul_left _ (Nat.log2_self_le hm), Nat.mul_lt_mul_of_pos_left Nat.lt_log2_self (by norm_num)⟩

/-- A scaled integer has no remainder to round. -/
theorem roundShift_scaled (m k : Nat) : roundShift (2 ^ k * m) k = m := by
  have hpos : 0 < 2 ^ k := Nat.two_pow_pos k
  simp only [roundShift, Nat.mul_mod_right, Nat.mul_div_cancel_left m hpos]
  rw [if_neg (by omega)]

/-- The quantum that the value of a pattern is rounded at is its own exponent. -/
theorem FiniteParts.quantum {x : F32} {neg : Bool} {m : Nat} {e : Int} (h : FiniteParts x neg m e) (hm : m ≠ 0) :
    max (e + (Nat.log2 m : Int) - 23) (-149) = e := by
  have hle : Nat.log2 m < 24 := (Nat.log2_lt hm).2 h.significand
  by_cases hsub : m < 2 ^ 23
  · have he := h.subnormal hsub
    have hlt : Nat.log2 m < 23 := (Nat.log2_lt hm).2 hsub
    omega
  · have hge : 23 ≤ Nat.log2 m := (Nat.le_log2 hm).2 (by omega)
    have hlow := h.low
    omega

/-- Rounding the exact value of a pattern, its significand scaled by `2^23`, gives the pattern back. -/
theorem roundPack_scaled {x : F32} {neg : Bool} {m : Nat} {e : Int} (h : FiniteParts x neg m e) :
    roundPack neg (2 ^ 23 * m) (-23 + e) = x := by
  have hpattern : packSign neg ((e + 149).toNat * 2 ^ 23 + m) = x := by
    rw [h.magnitude, h.sign, packSign_signBit]
  unfold roundPack
  split_ifs with hzero
  · obtain rfl : m = 0 := by omega
    have he : e = -149 := h.subnormal (by norm_num)
    simpa [he] using hpattern
  · have hm : m ≠ 0 := by omega
    have hquantum : max (-23 + e + (Nat.log2 (2 ^ 23 * m) : Int) - 23) (-149) = e := by
      have := h.quantum hm
      rw [log2_scaled hm]
      omega
    have hbelow : ¬ e ≤ -23 + e := by omega
    have hshift : (e - (-23 + e)).toNat = 23 := by omega
    have hfinite := h.finite
    simp only [hquantum, hbelow, if_false, hshift, roundShift_scaled, hpattern]
    rw [h.magnitude, if_neg (by omega)]

theorem fmul_one (x : F32) : PassesUnchanged x (fmul 0x3F800000 x) := by
  refine ⟨fun hnum => ?_, fun hnan => isNaN_fmul_of_nan (.inr hnan)⟩
  have hcore : mulCore 0x3F800000 x = some x := by
    unfold mulCore
    rw [classify_one]
    cases hc : classify x with
    | nan =>
      rw [classify_eq_nan_iff, hnum] at hc
      cases hc
    | inf neg => simp [(classify_inf hc).2]
    | fin neg m e => simp only [Bool.false_xor, roundPack_scaled (classify_fin hc)]
  rw [fmul, hcore, orNaN]

end Sys2Proof.Proofs
end

section
/-! PROOFS. FILT_COMPUTE (40_filter.md R180 to R184, R195): one FilterCompute where the tables are written, with
what it leaves and answers, and the calls in a row. -/

namespace Sys2Proof.Proofs

open Sys2Proof Sys2Proof.Machine Sys2Proof.Claims

/-! ### The parts of a FilterCompute where the tables are written -/

/-- The stage has every table word its datapath can read, and its phase index is inside the oscillator table
(70_reset_and_hazards.md R414, 45_control.md R349). -/
structure StageReady (s : State) (sid : StageId) : Prop where
  tables : s.StageTablesWritten sid
  phase : (s.stage sid).transEn = true → (s.stage sid).oscIdx.toNat < (s.stage sid).oscN.toNat

/-- What is stored as the newest entry: the sample, with translation mixed with the next oscillator value (R181,
R182). -/
def mixed {α : Type} (ops : SampleOps α) (s : State) (sid : StageId) (x : α) : α :=
  if (s.stage sid).transEn then
    ops.mix x (osc s sid (s.stage sid).oscIdx.toNat .first) (secondLane s sid (s.stage sid).oscIdx.toNat)
  else x

theorem mixed_s0 (s : State) (x : C32) :
    mixed complexOps s .s0 x =
      if s.stage0.transEn then
        cmul x { re := osc s .s0 s.stage0.oscIdx.toNat .first, im := osc s .s0 s.stage0.oscIdx.toNat .second }
      else x := by
  rw [mixed, secondLane, if_pos rfl]
  rfl

/-- The inner product of R184 over samples of either type. -/
def tapSum {α : Type} (ops : SampleOps α) (c : Nat → F32) (x : Nat → α) (n : Nat) : α :=
  (List.range' 1 (n - 1)).foldl (fun acc t => ops.add acc (ops.scale (c t) (x t))) (ops.scale (c 0) (x 0))

theorem tapSum_complexOps (c : Nat → F32) (x : Nat → C32) (n : Nat) :
    tapSum complexOps c x n = complexProduct c x n := rfl

theorem tapSum_realOps (c x : Nat → F32) (n : Nat) : tapSum realOps c x n = realProduct c x n := rfl

theorem tapSum_one {α : Type} (ops : SampleOps α) (c : Nat → F32) (x : Nat → α) :
    tapSum ops c x 1 = ops.scale (c 0) (x 0) := rfl

/-- An inner product over `n` taps reads the first `n` entries alone. -/
theorem tapSum_congr {α : Type} (ops : SampleOps α) (c : Nat → F32) {x y : Nat → α} {n : Nat} (hn : 1 ≤ n)
    (h : ∀ t, t < n → x t = y t) : tapSum ops c x n = tapSum ops c y n := by
  rw [tapSum, h 0 hn]
  refine List.foldl_ext _ _ _ fun acc t ht => ?_
  rw [h t (by rw [List.mem_range'_1] at ht; omega)]

section
variable {α : Type} {ops : SampleOps α} {draw : Nat → α} {s : State} {sid : StageId}

theorem tapProduct_coef {sh : List α} {t : Nat} (h : (s.mem.readWord (coefAddr sid t)).isSome) :
    tapProduct ops draw s.mem sid sh t = .ok (ops.scale (coef s sid t) (shiftEntry draw sh t)) := by
  obtain ⟨c, hc⟩ := Option.isSome_iff_exists.1 h
  rw [tapProduct, coef, hc, Option.getD_some]

theorem accumulateTaps_written {sh : List α} (k t : Nat) (acc : α)
    (h : ∀ u, u < t + k → (s.mem.readWord (coefAddr sid u)).isSome) :
    accumulateTaps ops draw s.mem sid sh k t acc =
      .ok ((List.range' t k).foldl
        (fun acc u => ops.add acc (ops.scale (coef s sid u) (shiftEntry draw sh u))) acc) := by
  induction k generalizing t acc with
  | zero => rfl
  | succ k ih =>
    rw [accumulateTaps, tapProduct_coef (h t (by omega))]
    exact ih (t + 1) _ fun u hu => h u (by omega)

theorem innerProduct_written {sh : List α} {n : Nat} (hn : 1 ≤ n)
    (h : ∀ u, u < n → (s.mem.readWord (coefAddr sid u)).isSome) :
    innerProduct ops draw s.mem sid n sh = .ok (tapSum ops (coef s sid) (shiftEntry draw sh) n) := by
  rw [innerProduct, tapProduct_coef (h 0 hn)]
  exact accumulateTaps_written _ _ _ fun u hu => h u (by omega)

theorem translate_ready (h : StageReady s sid) (x : α) :
    translate ops s.mem sid (s.stage sid) x =
      .ok (mixed ops s sid x,
        { s.stage sid with
          oscIdx := if (s.stage sid).transEn then nextPhase (s.stage sid) else (s.stage sid).oscIdx }) := by
  unfold mixed Machine.translate
  split_ifs with htrans
  · rw [oscNext, oscEntry_of_written (h.tables.2 htrans _ (h.phase htrans))]
    rfl
  · rfl

/-- The shift register after a FilterCompute (R181). -/
def newShift (ops : SampleOps α) (draw : Nat → α) (s : State) (sid : StageId) (sh : List α) (x : α) : List α :=
  shiftIn draw (tapCount (s.stage sid)) sh (mixed ops s sid x)

/-- The output of a FilterCompute whose call is an output call (R184). -/
def stageOutput (ops : SampleOps α) (draw : Nat → α) (s : State) (sid : StageId) (sh : List α) (x : α) : α :=
  tapSum ops (coef s sid) (shiftEntry draw (newShift ops draw s sid sh x)) (tapCount (s.stage sid))

/-- One FilterCompute of a ready stage (R181): the shift, the next registers, and on an output call the inner
product. -/
theorem filterCompute_ready (h : StageReady s sid) (sh : List α) (x : α) :
    filterCompute ops draw s.mem sid (s.stage sid) sh x =
      .ok { regs := computedStage (s.stage sid)
            shift := newShift ops draw s sid sh x
            out := if (s.stage sid).dcnt + 1 = (s.stage sid).decim then some (stageOutput ops draw s sid sh x)
              else none } := by
  have hsum : innerProduct ops draw s.mem sid (tapCount (s.stage sid)) (newShift ops draw s sid sh x) =
      .ok (stageOutput ops draw s sid sh x) := innerProduct_written (le_max_right _ _) h.tables.1
  rw [newShift] at hsum ⊢
  by_cases hout : (s.stage sid).dcnt + 1 = (s.stage sid).decim
  · simp only [filterCompute, translate_ready h, computedStage, hout, if_true, hsum]
  · simp only [filterCompute, translate_ready h, computedStage, hout, if_false]

/-- Where NTAPS entries of the shift register are written, the shift draws no free value (10_state.md R45). -/
theorem newShift_filled {sh : List α} (x : α) (hn : 1 ≤ (s.stage sid).ntaps.toNat)
    (hfill : (s.stage sid).ntaps.toNat ≤ sh.length) :
    newShift ops draw s sid sh x = shifted (s.stage sid).ntaps.toNat sh (mixed ops s sid x) := by
  rw [newShift, tapCount, max_eq_left hn, shiftIn_of_le draw _ hfill, shifted]

/-- And neither does the inner product, whatever value stands for an entry that is not there. -/
theorem stageOutput_filled {sh : List α} (x d : α) (hn : 1 ≤ (s.stage sid).ntaps.toNat)
    (hfill : (s.stage sid).ntaps.toNat ≤ sh.length) :
    stageOutput ops draw s sid sh x =
      tapSum ops (coef s sid) (fun t => (shifted (s.stage sid).ntaps.toNat sh (mixed ops s sid x)).getD t d)
        (s.stage sid).ntaps.toNat := by
  have hlength : (s.stage sid).ntaps.toNat ≤ (newShift ops draw s sid sh x).length := by
    rw [newShift, tapCount, max_eq_left hn, shiftIn_length draw sh _ hn]
    exact le_max_left _ _
  rw [stageOutput, tapCount, max_eq_left hn]
  refine tapSum_congr ops _ hn fun t ht => ?_
  rw [← newShift_filled x hn hfill, shiftEntry, List.getD_eq_getElem _ _ (ht.trans_le hlength),
    List.getD_eq_getElem _ _ (ht.trans_le hlength)]

end

/-! ### FILT_COMPUTE on each stage -/

section
variable {s : State}

theorem execFiltCompute_s0 (hp : s.Paused) (h : StageReady s .s0) :
    exec (.filtCompute 0) s =
      .next { s with
        stage0 := computedStage s.stage0
        shift0 := newShift complexOps (complexDraw s) s .s0 s.shift0 (complexArg s)
        cmd := if s.stage0.dcnt + 1 = s.stage0.decim then
            results s (stageOutput complexOps (complexDraw s) s .s0 s.shift0 (complexArg s)).re
              (stageOutput complexOps (complexDraw s) s .s0 s.shift0 (complexArg s)).im true
          else results s 0 0 false } := by
  have he : exec (.filtCompute 0) s = execFiltCompute 0 s := rfl
  simp only [he, execFiltCompute, stageOfSel_of_num (sel := 0) (sid := .s0) rfl]
  rw [component_paused hp.1 hp.2, filterStage0, ← stage_s0, filterCompute_ready h]
  split_ifs <;> rfl

theorem execFiltCompute_s1 (hp : s.Paused) (h : StageReady s .s1) :
    exec (.filtCompute 1) s =
      .next { s with
        stage1 := computedStage s.stage1
        shift1 := newShift realOps (shiftDraw s .s1 .first) s .s1 s.shift1 (realArg s)
        cmd := if s.stage1.dcnt + 1 = s.stage1.decim then
            results s (stageOutput realOps (shiftDraw s .s1 .first) s .s1 s.shift1 (realArg s)) 0 true
          else results s 0 0 false } := by
  have he : exec (.filtCompute 1) s = execFiltCompute 1 s := rfl
  simp only [he, execFiltCompute, stageOfSel_of_num (sel := 1) (sid := .s1) rfl]
  rw [component_paused hp.1 hp.2, filterStage1, ← stage_s1, filterCompute_ready h]
  split_ifs <;> rfl

theorem execFiltCompute_s2 (hp : s.Paused) (h : StageReady s .s2) :
    exec (.filtCompute 2) s =
      .next { s with
        stage2 := computedStage s.stage2
        shift2 := newShift realOps (shiftDraw s .s2 .first) s .s2 s.shift2 (realArg s)
        cmd := if s.stage2.dcnt + 1 = s.stage2.decim then
            results s (stageOutput realOps (shiftDraw s .s2 .first) s .s2 s.shift2 (realArg s)) 0 true
          else results s 0 0 false } := by
  have he : exec (.filtCompute 2) s = execFiltCompute 2 s := rfl
  simp only [he, execFiltCompute, stageOfSel_of_num (sel := 2) (sid := .s2) rfl]
  rw [component_paused hp.1 hp.2, filterStage2, ← stage_s2, filterCompute_ready h]
  split_ifs <;> rfl

end

/-- Settles O17: the shift register holds NTAPS written entries, so the shift and the inner product read no free
value. -/
theorem filtComputeOnTheComplexStage : Obligations.FiltComputeOnTheComplexStage := by
  intro s hp hwritten hn hfill hphase
  rw [execFiltCompute_s0 hp ⟨hwritten, hphase⟩, newShift_filled (sid := .s0) _ hn hfill,
    stageOutput_filled (sid := .s0) _ { re := 0, im := 0 } hn hfill, tapSum_complexOps, mixed_s0]
  rfl

/-- Settles O18: as on stage 0, for each of the two real stages. -/
theorem filtComputeOnTheRealStages : Obligations.FiltComputeOnTheRealStages := by
  constructor
  · intro s hp hwritten hn hfill hphase
    rw [execFiltCompute_s1 hp ⟨hwritten, hphase⟩, newShift_filled (sid := .s1) _ hn hfill,
      stageOutput_filled (sid := .s1) _ 0 hn hfill, tapSum_realOps]
    rfl
  · intro s hp hwritten hn hfill hphase
    rw [execFiltCompute_s2 hp ⟨hwritten, hphase⟩, newShift_filled (sid := .s2) _ hn hfill,
      stageOutput_filled (sid := .s2) _ 0 hn hfill, tapSum_realOps]
    rfl

/-! ### Calls in a row -/

/-- A paused FILT_COMPUTE on a ready stage, with what the next call on that stage depends on. -/
theorem execFiltCompute_ready {s : State} {sel : BitVec 2} {sid : StageId} (hp : s.Paused)
    (hsel : sel.toNat = sid.num) (h : StageReady s sid) :
    ∃ u, exec (.filtCompute sel) s = .next u ∧ u.ctrl = s.ctrl ∧ u.mem = s.mem ∧
      u.stage sid = computedStage (s.stage sid) ∧ u.cmd.code = 0 ∧
      (u.cmd.valid = true ↔ (s.stage sid).dcnt + 1 = (s.stage sid).decim) := by
  have hrecord (c : Prop) [Decidable c] (a b : Word) :
      (if c then results s a b true else results s 0 0 false).code = 0 ∧
        ((if c then results s a b true else results s 0 0 false).valid = true ↔ c) := by
    by_cases hc : c <;> simp [hc, results]
  cases sid with
  | s0 =>
    obtain rfl : sel = 0 := BitVec.eq_of_toNat_eq hsel
    exact ⟨_, execFiltCompute_s0 hp h, rfl, rfl, rfl, hrecord _ _ _⟩
  | s1 =>
    obtain rfl : sel = 1 := BitVec.eq_of_toNat_eq hsel
    exact ⟨_, execFiltCompute_s1 hp h, rfl, rfl, rfl, hrecord _ _ _⟩
  | s2 =>
    obtain rfl : sel = 2 := BitVec.eq_of_toNat_eq hsel
    exact ⟨_, execFiltCompute_s2 hp h, rfl, rfl, rfl, hrecord _ _ _⟩

/-- A stage stays ready: the tables stay, and the phase index stays inside its table. -/
theorem StageReady.computed {s u : State} {sid : StageId} (h : StageReady s sid) (hmem : u.mem = s.mem)
    (hstage : u.stage sid = computedStage (s.stage sid)) : StageReady u sid := by
  obtain ⟨⟨hcoef, hosc⟩, hphase⟩ := h
  refine ⟨⟨?_, ?_⟩, ?_⟩ <;> rw [hstage]
  · rw [hmem]
    exact hcoef
  · rw [hmem]
    exact hosc
  · intro htrans
    have hidx : (computedStage (s.stage sid)).oscIdx = nextPhase (s.stage sid) := if_pos htrans
    have hpos : 0 < (s.stage sid).oscN.toNat := Nat.zero_lt_of_lt (hphase htrans)
    rw [hidx, nextPhase_toNat fun hz => by simp [hz] at hpos]
    exact Nat.mod_lt _ hpos

/-- The decimation counter counts modulo DECIM (R181). -/
theorem computedStage_dcnt {r : StageRegs} {j : Nat} (hd : r.decim ≠ 0) (h : r.dcnt.toNat = j % r.decim.toNat) :
    (r.dcnt + 1 = r.decim ↔ (j + 1) % r.decim.toNat = 0) ∧
      (computedStage r).dcnt.toNat = (j + 1) % r.decim.toNat := by
  have hpos : 0 < r.decim.toNat := toNat_pos_of_ne_zero hd
  have hlt : r.dcnt.toNat < r.decim.toNat := h ▸ Nat.mod_lt j hpos
  have hsucc : (r.dcnt + 1).toNat = r.dcnt.toNat + 1 := by
    have := r.decim.isLt
    simp only [BitVec.toNat_add]
    exact Nat.mod_eq_of_lt (by simp; omega)
  have hmod : (j + 1) % r.decim.toNat = (r.dcnt.toNat + 1) % r.decim.toNat := by rw [h, Nat.mod_add_mod]
  have hround : r.dcnt + 1 = r.decim ↔ r.dcnt.toNat + 1 = r.decim.toNat := by
    rw [← BitVec.toNat_inj, hsucc]
  rw [hmod]
  by_cases hout : r.dcnt.toNat + 1 = r.decim.toNat
  · have hzero : (computedStage r).dcnt = 0 := if_pos (hround.2 hout)
    rw [hround, hzero, hout, Nat.mod_self]
    exact ⟨iff_of_true rfl rfl, rfl⟩
  · have hstep : (r.dcnt.toNat + 1) % r.decim.toNat = r.dcnt.toNat + 1 := Nat.mod_eq_of_lt (by omega)
    rw [hstep, computedStage, if_neg (mt hround.1 hout), hsucc, hround]
    exact ⟨by omega, rfl⟩

/-- After `j` calls of FILT_COMPUTE from `s` the decimation counter of the stage is `j mod DECIM`, and the stage
is ready for the next call. -/
structure AfterFiltCompute (s : State) (sid : StageId) (j : Nat) (t : State) : Prop where
  paused : t.Paused
  ready : StageReady t sid
  decim : (t.stage sid).decim = (s.stage sid).decim
  count : (t.stage sid).dcnt.toNat = j % (s.stage sid).decim.toNat

/-- The call after `j` calls gives an output exactly if `j + 1` is a multiple of DECIM. -/
theorem AfterFiltCompute.step {s t : State} {sel : BitVec 2} {sid : StageId} {j : Nat}
    (h : AfterFiltCompute s sid j t) (hsel : sel.toNat = sid.num) (hd : (s.stage sid).decim ≠ 0) :
    ∃ u, exec (.filtCompute sel) t = .next u ∧ AfterFiltCompute s sid (j + 1) u ∧ u.cmd.code = 0 ∧
      (u.cmd.valid = true ↔ (j + 1) % (s.stage sid).decim.toNat = 0) := by
  obtain ⟨hpaused, hready, hdecim, hcount⟩ := h
  obtain ⟨u, hexec, hctrl, hmem, hstage, hcode, hvalid⟩ := execFiltCompute_ready hpaused hsel hready
  rw [← hdecim] at hd hcount ⊢
  obtain ⟨hout, hnext⟩ := computedStage_dcnt hd hcount
  refine ⟨u, hexec, ⟨?_, hready.computed hmem hstage, ?_, ?_⟩, hcode, hvalid.trans hout⟩
  · rwa [State.Paused, hctrl]
  · rw [hstage, ← hdecim]
    rfl
  · rw [hstage, hnext, hdecim]

/-- Settles O19: `j` calls leave the counter at `j mod DECIM`, which decides over the next one. -/
theorem decimationOutputsOnEveryNthCall : Obligations.DecimationOutputsOnEveryNthCall := by
  intro s sel sid hp hsel hwritten hdcnt hd hphase j
  have hstart : AfterFiltCompute s sid 0 s := ⟨hp, ⟨hwritten, hphase⟩, rfl, by rw [hdcnt]; simp⟩
  have hstep := fun j t (h : AfterFiltCompute s sid j t) => h.step hsel hd
  obtain ⟨t, hrun, ht⟩ := repeatExec_induction (AfterFiltCompute s sid) hstart
    (fun j t h => (hstep j t h).imp fun _ hu => ⟨hu.1, hu.2.1⟩) j
  obtain ⟨u, hexec, hu, hcode, hvalid⟩ := hstep j t ht
  exact ⟨u, repeatExec_succ_last hrun hexec, hcode, hvalid, hu.count⟩

/-! ### Pass-through -/

section
variable {α : Type} {ops : SampleOps α} {draw : Nat → α} {s : State} {sid : StageId}

theorem passThrough_tapCount {r : StageRegs} (h : PassThrough r) : tapCount r = 1 := by
  obtain ⟨hntaps, -, -, -⟩ := h
  rw [tapCount, hntaps]
  rfl

theorem passThrough_ready (h : PassThrough (s.stage sid)) (hone : s.mem.readWord (coefAddr sid 0) = some 0x3F800000) :
    StageReady s sid := by
  have htaps := passThrough_tapCount h
  obtain ⟨-, -, -, htrans⟩ := h
  refine ⟨⟨fun t ht => ?_, fun ht => ?_⟩, fun ht => ?_⟩
  · obtain rfl : t = 0 := by omega
    rw [hone]
    rfl
  · simp [htrans] at ht
  · simp [htrans] at ht

/-- Every call is an output call, and the counter stays at 0. -/
theorem passThrough_output {r : StageRegs} (h : PassThrough r) : r.dcnt + 1 = r.decim ∧ computedStage r = r := by
  obtain ⟨-, hdecim, hdcnt, htrans⟩ := h
  have hout : r.dcnt + 1 = r.decim := by rw [hdcnt, hdecim]; rfl
  refine ⟨hout, ?_⟩
  rw [computedStage, if_pos hout, if_neg (by simp [htrans]), ← hdcnt]

theorem passThrough_newShift (h : PassThrough (s.stage sid)) (sh : List α) (x : α) :
    newShift ops draw s sid sh x = x :: sh.drop 1 := by
  have hmixed : mixed ops s sid x = x := by
    obtain ⟨-, -, -, htrans⟩ := h
    simp [mixed, htrans]
  rw [newShift, passThrough_tapCount h, hmixed]
  rfl

theorem passThrough_stageOutput (h : PassThrough (s.stage sid))
    (hone : s.mem.readWord (coefAddr sid 0) = some 0x3F800000) (sh : List α) (x : α) :
    stageOutput ops draw s sid sh x = ops.scale 0x3F800000 x := by
  have hcoef : coef s sid 0 = 0x3F800000 := by rw [coef, hone, Option.getD_some]
  rw [stageOutput, passThrough_tapCount h, tapSum_one, passThrough_newShift h, hcoef]
  rfl

end

/-- Settles O20: the one tap is 1.0, and the product with 1.0 is the sample. -/
theorem passThroughStageIsTheIdentity : Obligations.PassThroughStageIsTheIdentity := by
  refine fun s hp => ⟨fun hpass hone => ?_, fun hpass hone => ?_, fun hpass hone => ?_⟩
  · obtain ⟨hout, hround⟩ := passThrough_output hpass
    refine ⟨_, _, fmul_one s.cmd.arg0, fmul_one s.cmd.arg1, ?_⟩
    rw [execFiltCompute_s0 hp (passThrough_ready hpass hone), passThrough_newShift (sid := .s0) hpass,
      passThrough_stageOutput (sid := .s0) hpass hone, hround, if_pos hout]
    rfl
  · obtain ⟨hout, hround⟩ := passThrough_output hpass
    refine ⟨_, fmul_one s.cmd.arg0, ?_⟩
    rw [execFiltCompute_s1 hp (passThrough_ready hpass hone), passThrough_newShift (sid := .s1) hpass,
      passThrough_stageOutput (sid := .s1) hpass hone, hround, if_pos hout]
    rfl
  · obtain ⟨hout, hround⟩ := passThrough_output hpass
    refine ⟨_, fmul_one s.cmd.arg0, ?_⟩
    rw [execFiltCompute_s2 hp (passThrough_ready hpass hone), passThrough_newShift (sid := .s2) hpass,
      passThrough_stageOutput (sid := .s2) hpass hone, hround, if_pos hout]
    rfl

end Sys2Proof.Proofs
end

section
/-! PROOFS. The sample pipeline (40_filter.md R190 to R192): where it ends, and that it is the same on the port and
in PIPE_PUSH, since no part of it reads or moves the command registers. -/

namespace Sys2Proof.Proofs

open Sys2Proof Sys2Proof.Machine Sys2Proof.Claims

/-! ### The command registers beside the receiver -/

/-- The state with other command registers. -/
def withCmd (c : CmdRegs) (s : State) : State := { s with cmd := c }

theorem completeChannel_withCmd (c : CmdRegs) (v : Word) (s : State) :
    completeChannel v (withCmd c s) = withCmd c (completeChannel v s) := by
  have hite : withCmd c (completeChannel v s) = _ := apply_ite (withCmd c) _ _ _
  exact hite.symm

theorem completeTxid_withCmd (c : CmdRegs) (v : Word) (w : Nat) (s : State) :
    completeTxid v w (withCmd c s) = withCmd c (completeTxid v w s) := by
  have hite : withCmd c (completeTxid v w s) = _ := apply_ite (withCmd c) _ _ _
  exact hite.symm

theorem completeCrc_withCmd (c : CmdRegs) (v : Word) (s : State) :
    completeCrc v (withCmd c s) = withCmd c (completeCrc v s) := by
  have hite : withCmd c (if v.setWidth 16 = s.crc.finalize then emitMessage s else crcMismatch s) = _ :=
    apply_ite (withCmd c) _ _ _
  exact congrArg endFrame hite.symm

theorem completeField_withCmd (c : CmdRegs) (v : Word) (w : Nat) (s : State) :
    completeField v w (withCmd c s) = withCmd c (completeField v w s) := by
  have hrx : (withCmd c s).rx = s.rx := rfl
  unfold completeField
  rw [hrx, completeChannel_withCmd, completeTxid_withCmd, completeCrc_withCmd]
  split_ifs <;> rfl

theorem syncArm_withCmd (c : CmdRegs) (b : Level) (s : State) :
    syncArm b (withCmd c s) = withCmd c (syncArm b s) := by
  have hite : withCmd c (syncArm b s) = _ := apply_ite (withCmd c) _ _ _
  exact hite.symm

theorem fieldArm_withCmd (c : CmdRegs) (b : Level) (s : State) :
    fieldArm b (withCmd c s) = withCmd c (fieldArm b s) := by
  have hite : withCmd c (fieldArm b s) = _ :=
    (apply_ite (withCmd c) _ _ _).trans (congrArg _ (apply_ite (withCmd c) _ _ _))
  rw [hite, ← completeField_withCmd]
  rfl

theorem smStep_withCmd (c : CmdRegs) (b : Level) (s : State) :
    smStep b (withCmd c s) = withCmd c (smStep b s) := by
  have hrx : (withCmd c s).rx = s.rx := rfl
  unfold smStep
  rw [hrx, syncArm_withCmd, fieldArm_withCmd]
  split_ifs <;> rfl

theorem replay_withCmd (c : CmdRegs) (b : Level) (n : Nat) (s : State) :
    replay b n (withCmd c s) = withCmd c (replay b n s) := by
  induction n generalizing s with
  | zero => rfl
  | succ n ih =>
    have hctrl : (withCmd c s).ctrl = s.ctrl := rfl
    unfold replay
    rw [hctrl, smStep_withCmd, ih]
    split_ifs <;> rfl

theorem rxPush_withCmd (c : CmdRegs) (l : Level) (s : State) :
    rxPush l (withCmd c s) = withCmd c (rxPush l s) := by
  have hreplay : replay (withCmd c s).rx.prevLevel (withCmd c s).trk.curCount (count .level (withCmd c s)) =
      withCmd c (replay s.rx.prevLevel s.trk.curCount (count .level s)) := replay_withCmd c _ _ (count .level s)
  rcases rxPush_cases l (withCmd c s) with ⟨hl, h⟩ | ⟨hl, h⟩
  · have hsame : rxPush l s = { count .level s with trk := s.trk.extend } := if_pos hl
    rw [h, hsame]
    rfl
  · rcases rxPush_cases l s with ⟨hl', -⟩ | ⟨-, h'⟩
    · exact absurd hl' hl
    · rw [h, hreplay, h']
      rfl

/-! ### The command registers beside the filters -/

theorem filterStage0_withCmd (c : CmdRegs) (x : C32) (s : State) :
    filterStage0 x (withCmd c s) = (filterStage0 x s).map (Prod.map (withCmd c) id) := by
  have hcompute : filterCompute complexOps (complexDraw (withCmd c s)) (withCmd c s).mem .s0 (withCmd c s).stage0
      (withCmd c s).shift0 x = filterCompute complexOps (complexDraw s) s.mem .s0 s.stage0 s.shift0 x := rfl
  rw [filterStage0, hcompute, filterStage0]
  split <;> rfl

theorem filterStage1_withCmd (c : CmdRegs) (x : F32) (s : State) :
    filterStage1 x (withCmd c s) = (filterStage1 x s).map (Prod.map (withCmd c) id) := by
  have hcompute : filterCompute realOps (shiftDraw (withCmd c s) .s1 .first) (withCmd c s).mem .s1
      (withCmd c s).stage1 (withCmd c s).shift1 x =
        filterCompute realOps (shiftDraw s .s1 .first) s.mem .s1 s.stage1 s.shift1 x := rfl
  rw [filterStage1, hcompute, filterStage1]
  split <;> rfl

theorem filterStage2_withCmd (c : CmdRegs) (x : F32) (s : State) :
    filterStage2 x (withCmd c s) = (filterStage2 x s).map (Prod.map (withCmd c) id) := by
  have hcompute : filterCompute realOps (shiftDraw (withCmd c s) .s2 .first) (withCmd c s).mem .s2
      (withCmd c s).stage2 (withCmd c s).shift2 x =
        filterCompute realOps (shiftDraw s .s2 .first) s.mem .s2 s.stage2 s.shift2 x := rfl
  rw [filterStage2, hcompute, filterStage2]
  split <;> rfl

/-- A pipeline step goes the same way with other command registers, and leaves them (R190). -/
theorem pipelineStep_withCmd (c : CmdRegs) (x : C32) (s : State) :
    pipelineStep x (withCmd c s) = (pipelineStep x s).map (withCmd c) := by
  have hcount : count .sample (withCmd c s) = withCmd c (count .sample s) := rfl
  unfold pipelineStep
  rw [hcount, filterStage0_withCmd]
  rcases filterStage0 x (count .sample s) with f | ⟨s1, _ | o0⟩
  · rfl
  · rfl
  simp only [Except.map, Prod.map, id, filterStage1_withCmd]
  rcases filterStage1 (cmag o0) s1 with f | ⟨s2, _ | o1⟩
  · rfl
  · rfl
  simp only [Except.map, Prod.map, id, filterStage2_withCmd]
  rcases filterStage2 o1 s2 with f | ⟨s3, _ | o2⟩
  · rfl
  · rfl
  exact congrArg Except.ok (rxPush_withCmd c _ s3)

theorem pipelineStep_cmd {x : C32} {s t : State} (h : pipelineStep x s = .ok t) : t.cmd = s.cmd := by
  rw [(pipelineStep_frame h).rest]

/-! ### PIPE_PUSH -/

theorem execPipePush_ok {s t : State} (hr : s.ctrl.run = true) (h : pipelineStep (complexArg s) s = .ok t) :
    exec .pipePush s = .next { t with cmd := done s } := by
  have he : exec .pipePush s = execPipePush s := rfl
  have hfinish : finish t = { t with cmd := done s } := by
    rw [finish, pipelineStep_cmd h]
    rfl
  rw [he, execPipePush, if_pos hr, h, ← hfinish]

/-! ### Where a pipeline step ends (R190) -/

section
variable {x o0 : C32} {o1 o2 : F32} {s a b t : State}

theorem pipelineStep_ends_in_stage0 (h0 : filterStage0 x (count .sample s) = .ok (t, none)) :
    pipelineStep x s = .ok t := by
  rw [pipelineStep, h0]

theorem pipelineStep_ends_in_stage1 (h0 : filterStage0 x (count .sample s) = .ok (a, some o0))
    (h1 : filterStage1 (cmag o0) a = .ok (t, none)) : pipelineStep x s = .ok t := by
  simp only [pipelineStep, h0, h1]

theorem pipelineStep_ends_in_stage2 (h0 : filterStage0 x (count .sample s) = .ok (a, some o0))
    (h1 : filterStage1 (cmag o0) a = .ok (b, some o1)) (h2 : filterStage2 o1 b = .ok (t, none)) :
    pipelineStep x s = .ok t := by
  simp only [pipelineStep, h0, h1, h2]

theorem pipelineStep_reaches_receiver (h0 : filterStage0 x (count .sample s) = .ok (a, some o0))
    (h1 : filterStage1 (cmag o0) a = .ok (b, some o1)) (h2 : filterStage2 o1 b = .ok (t, some o2)) :
    pipelineStep x s = .ok (rxPush (slice o2) t) := by
  simp only [pipelineStep, h0, h1, h2]

end

/-! ### A block whose stages are ready -/

theorem filterStage0_ready {s : State} (h : StageReady s .s0) (x : C32) :
    ∃ r sh out, filterStage0 x s = .ok ({ s with stage0 := r, shift0 := sh }, out) :=
  ⟨_, _, _, by rw [filterStage0, ← stage_s0, filterCompute_ready h]⟩

theorem filterStage1_ready {s : State} (h : StageReady s .s1) (x : F32) :
    ∃ r sh out, filterStage1 x s = .ok ({ s with stage1 := r, shift1 := sh }, out) :=
  ⟨_, _, _, by rw [filterStage1, ← stage_s1, filterCompute_ready h]⟩

theorem filterStage2_ready {s : State} (h : StageReady s .s2) (x : F32) :
    ∃ r sh out, filterStage2 x s = .ok ({ s with stage2 := r, shift2 := sh }, out) :=
  ⟨_, _, _, by rw [filterStage2, ← stage_s2, filterCompute_ready h]⟩

/-- No stage before it moves what a stage needs, so the step goes on in whichever stage the sample reaches. -/
theorem pipelineStep_ready {s : State} (h : ∀ sid, StageReady s sid) (x : C32) : ∃ t, pipelineStep x s = .ok t := by
  obtain ⟨r0, sh0, o0, h0⟩ := filterStage0_ready (s := count .sample s) ⟨(h .s0).tables, (h .s0).phase⟩ x
  cases o0 with
  | none => exact ⟨_, pipelineStep_ends_in_stage0 h0⟩
  | some y =>
    obtain ⟨r1, sh1, o1, h1⟩ := filterStage1_ready
      (s := { count .sample s with stage0 := r0, shift0 := sh0 }) ⟨(h .s1).tables, (h .s1).phase⟩ (cmag y)
    cases o1 with
    | none => exact ⟨_, pipelineStep_ends_in_stage1 h0 h1⟩
    | some z =>
      obtain ⟨r2, sh2, o2, h2⟩ := filterStage2_ready
        (s := { count .sample s with stage0 := r0, shift0 := sh0, stage1 := r1, shift1 := sh1 })
        ⟨(h .s2).tables, (h .s2).phase⟩ z
      cases o2 with
      | none => exact ⟨_, pipelineStep_ends_in_stage2 h0 h1 h2⟩
      | some v => exact ⟨_, pipelineStep_reaches_receiver h0 h1 h2⟩

theorem pipelineStep_frame_done {s t : State} (h : pipelineStep (complexArg s) s = .ok t) :
    ({ t with cmd := done s } : State) = { s with
      ctrl := t.ctrl, evt := t.evt, cmd := done s, stage0 := t.stage0, stage1 := t.stage1
      stage2 := t.stage2, shift0 := t.shift0, shift1 := t.shift1, shift2 := t.shift2, rx := t.rx
      trk := t.trk, man := t.man, crc := t.crc, cur := t.cur, msg := t.msg, counters := t.counters
      msgOut := t.msgOut } := by
  conv_lhs => rw [(pipelineStep_frame h).rest]

/-- Settles O13: a step over ready stages goes on with the frame of every pipeline step, and the stages are run in
the order of the four places where a step can end. -/
theorem pipePushCompletesAndRunsTheStagesInOrder : Obligations.PipePushCompletesAndRunsTheStagesInOrder := by
  refine fun s hr => ⟨fun hwritten hphase => ?_, ?_⟩
  · obtain ⟨t, ht⟩ := pipelineStep_ready (fun sid => ⟨hwritten sid, hphase sid⟩) (complexArg s)
    have hexec := execPipePush_ok hr ht
    have hframe := pipelineStep_frame ht
    exact ⟨_, hexec, hframe.sample, hframe.configured, hframe.enable,
      sameConfiguration_of_frame (exec_frame hexec), pipelineStep_frame_done ht⟩
  · exact ⟨fun _ h0 => execPipePush_ok hr (pipelineStep_ends_in_stage0 h0), fun _ _ h0 =>
      ⟨fun _ h1 => execPipePush_ok hr (pipelineStep_ends_in_stage1 h0 h1), fun _ _ h1 =>
        ⟨fun _ h2 => execPipePush_ok hr (pipelineStep_ends_in_stage2 h0 h1 h2), fun _ _ h2 =>
          execPipePush_ok hr (pipelineStep_reaches_receiver h0 h1 h2)⟩⟩⟩

/-! ### The sample port -/

theorem step_producer {s : State} {ts : List Turn} (hturn : s.turns = .producer :: ts) :
    step s = producerTurn (atTurn s ts) := by
  rw [step, stepOnce, hturn]
  rfl

/-- The producer's sample is accepted while RUN = 1, and held while RUN = 0 (R191). -/
theorem producerTurn_sample {s : State} {x : C32} {xs : List C32} (hsamples : s.samples = x :: xs) :
    producerTurn s = if s.ctrl.run then outcomeOf (pipelineStep x { s with samples := xs }) else .next s := by
  rw [producerTurn, hsamples]
  rfl

section
variable {s : State} {c : CmdRegs} {x : C32}

/-- PIPE_PUSH with the pair `x` in CMD_ARG0 and CMD_ARG1 runs the pipeline step of `x`, whatever the other command
registers are (R192). -/
theorem execPipePush_of_ok {t : State} (hr : s.ctrl.run = true) (hx : complexArg (withCmd c s) = x)
    (h : pipelineStep x s = .ok t) :
    exec .pipePush (withCmd c s) = .next (withCmd (done (withCmd c s)) (withCmd c t)) := by
  refine execPipePush_ok hr ?_
  rw [hx, pipelineStep_withCmd, h]
  rfl

theorem execPipePush_of_error {f : Fault} (hr : s.ctrl.run = true) (hx : complexArg (withCmd c s) = x)
    (h : pipelineStep x s = .error f) : exec .pipePush (withCmd c s) = .fault f := by
  refine execPipePush_fault hr ?_
  rw [hx, pipelineStep_withCmd, h]
  rfl

end

/-- Settles O14: PIPE_PUSH runs the same pipeline step, which keeps the command registers and does not read them. -/
theorem portSampleEqualsPipePush : Obligations.PortSampleEqualsPipePush := by
  intro s x xs ts hturn hsamples
  rw [step_producer hturn, producerTurn_sample (s := atTurn s ts) hsamples]
  refine ⟨fun hr => if_neg (by simp [atTurn, hr]), fun hr => ?_⟩
  intro pushed
  have hpush : pushed = exec .pipePush
      (withCmd { s.cmd with arg0 := x.re, arg1 := x.im } { atTurn s ts with samples := xs }) := rfl
  have hrun : (atTurn s ts).ctrl.run = true := hr
  clear_value pushed
  rw [if_pos hrun]
  cases hstep : pipelineStep x { atTurn s ts with samples := xs } with
  | error f =>
    have hpushed : pushed = .fault f := hpush.trans (execPipePush_of_error hrun rfl hstep)
    simp [hpushed, outcomeOf]
  | ok t =>
    obtain ⟨c, hpushed⟩ : ∃ c, pushed = .next (withCmd c t) :=
      ⟨_, hpush.trans (execPipePush_of_ok hrun rfl hstep)⟩
    have hcmd : t.cmd = s.cmd := (pipelineStep_cmd hstep).trans rfl
    have hback : t = { withCmd c t with cmd := s.cmd } := by rw [← hcmd]; rfl
    rw [hpushed]
    refine ⟨fun t' => ⟨fun h => ?_, fun ⟨u, hu, ht'⟩ => ?_⟩, fun f => ⟨nofun, nofun⟩⟩
    · cases h
      exact ⟨_, rfl, hback⟩
    · cases hu
      rw [ht', ← hback, outcomeOf]

end Sys2Proof.Proofs
end

section
/-! PROOFS. The symbol-rate tracker's five commands (41_tracker.md R220 to R229), and the run that is too short to
count (R223). -/

namespace Sys2Proof.Proofs

open Sys2Proof Sys2Proof.Machine Sys2Proof.Claims

/-! ### The symbol count (R222) -/

/-- The rule's early end on a count of 0 is no exception to its quotient, as long as the average is not 0. -/
theorem symCount_of_num_ne_zero {num : Nat} (h : num ≠ 0) (c den : Nat) :
    symCount c num den = min ((2 * c * den + num) / (2 * num)) 2 := by
  rw [symCount, if_neg h]
  split_ifs with hc
  · have hhalf : num / (2 * num) = 0 := Nat.div_eq_of_lt (by omega)
    simp [hc, hhalf]
  · rfl

theorem symCount_num_zero (c den : Nat) : symCount c 0 den = if c = 0 then 0 else 2 := rfl

/-- The rule's integer quotient is the rational quotient, rounded to nearest with ties up. -/
theorem quotient_eq_floor_add_half {num : Nat} (h : num ≠ 0) (c den : Nat) :
    (2 * c * den + num) / (2 * num) = ⌊(c : ℚ) * den / num + 1 / 2⌋₊ := by
  have hnum : (num : ℚ) ≠ 0 := Nat.cast_ne_zero.2 h
  have hfrac : (c : ℚ) * den / num + 1 / 2 = ((2 * c * den + num : ℕ) : ℚ) / (2 * num : ℕ) := by
    push_cast
    field_simp
  rw [hfrac, Rat.natFloor_natCast_div_natCast]

/-- A run shorter than half the average counts 0 (R223). -/
theorem symCount_of_lt_half {c num den : Nat} (h : 2 * c * den < num) : symCount c num den = 0 := by
  have hquot : (2 * c * den + num) / (2 * num) = 0 := Nat.div_eq_of_lt (by omega)
  rw [symCount_of_num_ne_zero (by omega), hquot]
  rfl

/-! ### The lock sum (R224) -/

/-- The index `j` steps back round a window of `w` slots from the index `c`. -/
def backIndex (w c j : Nat) : Nat := (c + w - j) % w

section
variable {w c j : Nat}

theorem backIndex_lt (hc : c < w) : backIndex w c j < w := Nat.mod_lt _ (Nat.zero_lt_of_lt hc)

theorem backIndex_zero (hc : c < w) : backIndex w c 0 = c := by
  rw [backIndex, Nat.sub_zero, Nat.add_mod_right, Nat.mod_eq_of_lt hc]

/-- Stepping back from `c` is its own inverse: the index of a number of steps, taken as a number of steps, reaches
that number. -/
theorem backIndex_backIndex (hc : c < w) (hj : j < w) : backIndex w c (backIndex w c j) = j := by
  unfold backIndex
  obtain hle | hlt := le_or_gt j c
  · have hback : (c + w - j) % w = c - j := by
      rw [show c + w - j = c - j + w by omega, Nat.add_mod_right, Nat.mod_eq_of_lt (by omega)]
    rw [hback, show c + w - (c - j) = j + w by omega, Nat.add_mod_right, Nat.mod_eq_of_lt hj]
  · have hback : (c + w - j) % w = c + w - j := Nat.mod_eq_of_lt (by omega)
    rw [hback, show c + w - (c + w - j) = j by omega, Nat.mod_eq_of_lt hj]

/-- Going once round the window backwards meets every slot once. -/
theorem sum_backIndex (hc : c < w) (f : Nat → Nat) :
    ∑ j ∈ Finset.range w, f (backIndex w c j) = ∑ i ∈ Finset.range w, f i :=
  Finset.sum_nbij' (backIndex w c) (backIndex w c)
    (fun _ _ => Finset.mem_range.2 (backIndex_lt hc)) (fun _ _ => Finset.mem_range.2 (backIndex_lt hc))
    (fun _ hj => backIndex_backIndex hc (Finset.mem_range.1 hj))
    (fun _ hj => backIndex_backIndex hc (Finset.mem_range.1 hj)) (fun _ _ => rfl)

end

section
variable {t : Tracker}

theorem lockSum_eq_sum (t : Tracker) :
    t.lockSum = ∑ j ∈ Finset.range (t.width - 2), (t.slot (backIndex t.width t.cur.toNat (j + 2))).toNat := by
  rw [Tracker.lockSum, List.range'_eq_map_range, List.map_map]
  simp only [Function.comp_def, Nat.add_comm 2]
  rfl

/-- The lock sum leaves out the in-progress slot and the one before it, of all the slots in the window. -/
theorem lockSum_add_two_most_recent (hw : 2 ≤ t.width) (hc : t.cur.toNat < t.width) :
    t.lockSum + (t.slot t.cur.toNat).toNat +
        (t.slot ((t.cur.toNat + t.width - 1) % t.width)).toNat =
      ∑ i ∈ Finset.range t.width, (t.slot i).toNat := by
  obtain ⟨n, hn⟩ := Nat.exists_eq_add_of_le' hw
  have hlock := lockSum_eq_sum t
  rw [← sum_backIndex hc fun i => (t.slot i).toNat]
  rw [hn, Nat.add_sub_cancel] at hlock
  rw [hn, Finset.sum_range_succ', Finset.sum_range_succ', backIndex_zero (hn ▸ hc), hlock]
  exact Nat.add_right_comm _ _ _

/-- The lock sum fits AVG_NUM (R228). -/
theorem lockSum_lt (t : Tracker) : t.lockSum < 2 ^ 32 := by
  have hslots : t.lockSum ≤ (t.width - 2) * 65535 := by
    rw [lockSum_eq_sum]
    refine (Finset.sum_le_card_nsmul _ _ 65535 fun j _ => Nat.le_of_lt_succ (BitVec.isLt _)).trans_eq ?_
    rw [Finset.card_range, smul_eq_mul]
  have hw := t.width_le
  omega

theorem lockAverage_avgNum_toNat (t : Tracker) : t.lockAverage.avgNum.toNat = t.lockSum := by
  rw [Tracker.lockAverage, BitVec.toNat_ofNat, Nat.mod_eq_of_lt (lockSum_lt t)]

theorem lockAverage_avgDen_toNat (hw : 2 ≤ t.width) : t.lockAverage.avgDen.toNat = t.width - 2 := by
  have hlt := t.window.isLt
  unfold Tracker.width at *
  simp only [Tracker.lockAverage]
  bv_omega

end

/-! ### The five commands of a paused block -/

section
variable {s : State}

/-- A component command of a paused block does what its body does (45_control.md R342). -/
theorem exec_paused {t : State} {i : Instr} {body : State → Host.Outcome State Fault Refusal} (hp : s.Paused)
    (hexec : exec i s = component body s) (hbody : body s = .next t) : exec i s = .next t := by
  rw [hexec, component_paused hp.1 hp.2, hbody]

theorem execTrkExtend_paused (hp : s.Paused) :
    exec .trkExtend s = .next { s with cmd := done s, trk := s.trk.extend } :=
  exec_paused hp rfl (by rfl)

theorem execTrkStartSymbol_paused (hp : s.Paused) :
    exec .trkStartSymbol s = .next { s with cmd := done s, trk := s.trk.startSymbol } :=
  exec_paused hp rfl (by rfl)

theorem execTrkCount_paused (hp : s.Paused) :
    exec .trkCount s = .next { s with cmd := results s (BitVec.ofNat 32 s.trk.curCount) 0 true } :=
  exec_paused hp rfl (by rfl)

theorem execTrkLockAvg_paused (hp : s.Paused) :
    exec .trkLockAvg s = .next { s with cmd := done s, trk := s.trk.lockAverage } :=
  exec_paused hp rfl (by rfl)

theorem execTrkResetAvg_paused (hp : s.Paused) :
    exec .trkResetAvg s = .next { s with cmd := done s, trk := s.trk.resetAverage s.cfg } :=
  exec_paused hp rfl (by rfl)

end

/-- Settles O24: of the slots only the in-progress one moves, and its count is cut at 65535. -/
theorem trkExtendCountsTheInProgressSlot : Obligations.TrkExtendCountsTheInProgressSlot := by
  refine fun s hp hcur => ⟨s.trk.extend.slots, execTrkExtend_paused hp, ?_, fun i hi => ?_⟩
  · have hslot := s.trk.extend_slot s.trk.cur.toNat
    rw [if_pos ⟨rfl, hcur⟩] at hslot
    have hfits : min ((s.trk.slot s.trk.cur.toNat).toNat + 1) 65535 < 2 ^ 16 := by omega
    exact (congrArg BitVec.toNat hslot).trans (Nat.mod_eq_of_lt hfits)
  · exact (s.trk.extend_slot i).trans (if_neg fun h => hi h.1)

/-- Settles O25: the index after the last slot of the window is 0, so the opened slot is one of the window. -/
theorem trkStartSymbolOpensTheNextSlot : Obligations.TrkStartSymbolOpensTheNextSlot := by
  refine fun s hp hw => ⟨s.trk.startSymbol.slots, execTrkStartSymbol_paused hp, ?_, fun i hi => ?_⟩
  · have hnext : (s.trk.cur.toNat + 1) % s.trk.width < 31 := (Nat.mod_lt _ hw).trans_le s.trk.width_le
    exact (s.trk.startSymbol_slot _).trans (if_pos ⟨rfl, hnext⟩)
  · exact (s.trk.startSymbol_slot i).trans (if_neg fun h => hi h.1)

/-- Settles O26: the count is the rule's quotient, which rounds the rational one. -/
theorem trkCountRoundsTiesUpAndClamps : Obligations.TrkCountRoundsTiesUpAndClamps := by
  refine fun s hp => ⟨s.trk.curCount, execTrkCount_paused hp, curCount_le_two _, fun hnum => ?_, fun hnum => ?_⟩
  · have hpos : s.trk.avgNum.toNat ≠ 0 := (toNat_pos_of_ne_zero hnum).ne'
    rw [Tracker.curCount, symCount_of_num_ne_zero hpos, quotient_eq_floor_add_half hpos]
  · rw [Tracker.curCount, hnum]
    exact symCount_num_zero _ _

/-- Settles O27: going back round the window from the in-progress slot, the lock sum starts at the third. -/
theorem trkLockAvgAveragesAllButTheTwoMostRecent :
    Obligations.TrkLockAvgAveragesAllButTheTwoMostRecent := by
  intro s hp hw hcur
  have htwo : 2 ≤ s.trk.width := Nat.le_of_succ_le hw
  refine ⟨s.trk.lockAverage.avgNum, s.trk.lockAverage.avgDen, execTrkLockAvg_paused hp,
    lockAverage_avgDen_toNat htwo, ?_⟩
  rw [lockAverage_avgNum_toNat]
  exact lockSum_add_two_most_recent htwo hcur

/-- Settles O28: the command is ResetAverage after the mode checks. -/
theorem trkResetAvgRestoresTheEstimate : Obligations.TrkResetAvgRestoresTheEstimate :=
  fun _ => execTrkResetAvg_paused

/-! ### A run that is too short (R223) -/

/-- Settles O29: a level change replays the run as often as it counts, which is not at all. -/
theorem runUnderHalfASymbolIsDropped : Obligations.RunUnderHalfASymbolIsDropped := by
  intro s l hl hshort
  have hzero : s.trk.curCount = 0 := symCount_of_lt_half hshort
  refine ⟨hzero, ?_⟩
  rcases rxPush_cases l s with ⟨hsame, -⟩ | ⟨-, hpush⟩
  · exact absurd hsame hl
  · rw [hpush, hzero]
    rfl

end Sys2Proof.Proofs
end

section
/-! PROOFS. The Manchester decoder (42_manchester.md R250 to R259): its four commands, and what it holds after a
list of data bits. -/

namespace Sys2Proof.Proofs

open Sys2Proof Sys2Proof.Machine Sys2Proof.Claims

/-! ### A data bit, level by level (R250, R259) -/

section
variable {m : Manchester}

theorem add_first_level (h : m.pendValid = false) (b : Bool) :
    m.add (!b) = ({ m with pendLevel := !b, pendValid := true }, .buffered) :=
  Manchester.add_of_not_pending h (!b)

/-- With the first level of a bit pending, the second one is its opposite and makes the bit. -/
theorem add_second_level (h : m.pendValid = false) (b : Bool) :
    (m.add (!b)).1.add b = (({ m with pendLevel := !b, pendValid := true } : Manchester).shiftBit b, .decoded b) := by
  rw [add_first_level h]
  exact Manchester.add_of_opposite rfl rfl

/-- Settles O32: the two levels are a buffered one and its opposite. -/
theorem manchesterRoundTripReturnsTheBit : Obligations.ManchesterRoundTripReturnsTheBit := by
  intro m b h
  rw [add_second_level h, add_first_level h]
  exact ⟨rfl, rfl, rfl⟩

end

/-! ### A list of data bits (R253) -/

/-- The decoder after the levels of `bits`. -/
def fed (m : Manchester) (bits : List Bool) : Manchester :=
  (levelsOf bits).foldl (fun m l => (m.add l).1) m

@[simp] theorem fed_nil (m : Manchester) : fed m [] = m := rfl

theorem levelsOf_concat (bits : List Bool) (b : Bool) : levelsOf (bits ++ [b]) = levelsOf bits ++ [!b, b] :=
  List.flatMap_append

theorem fed_concat (m : Manchester) (bits : List Bool) (b : Bool) :
    fed m (bits ++ [b]) = (((fed m bits).add (!b)).1.add b).1 := by
  rw [fed, levelsOf_concat, List.foldl_append]
  rfl

theorem bitsValue_concat (bits : List Bool) (b : Bool) : bitsValue (bits ++ [b]) = 2 * bitsValue bits + b.toNat :=
  List.foldl_append

section
variable {m : Manchester}

theorem fed_pendValid (h : m.pendValid = false) (bits : List Bool) : (fed m bits).pendValid = false := by
  induction bits using List.reverseRecOn with
  | nil => exact h
  | append_singleton bits b ih => rw [fed_concat, add_second_level ih, Manchester.shiftBit_pendValid]

/-- Fed one more bit, the decoder shifts it in. -/
theorem fed_concat_shiftBit (h : m.pendValid = false) (bits : List Bool) (b : Bool) :
    fed m (bits ++ [b]) =
      ({ fed m bits with pendLevel := !b, pendValid := true } : Manchester).shiftBit b := by
  rw [fed_concat, add_second_level (fed_pendValid h bits)]

/-- A word that drops what leaves it at the top holds the fed bits below its old ones. -/
theorem fed_acc_toNat (h : m.pendValid = false) (bits : List Bool) :
    (fed m bits).acc.toNat = (m.acc.toNat * 2 ^ bits.length + bitsValue bits) % 2 ^ 32 := by
  induction bits using List.reverseRecOn with
  | nil => simpa [bitsValue] using (Nat.mod_eq_of_lt m.acc.isLt).symm
  | append_singleton bits b ih =>
    have hpow : m.acc.toNat * 2 ^ (bits.length + 1) = 2 * (m.acc.toNat * 2 ^ bits.length) := by ring
    rw [fed_concat_shiftBit h, Manchester.shiftBit_acc_toNat, ih, bitsValue_concat, List.length_append,
      List.length_singleton, hpow]
    omega

theorem fed_cnt_toNat (h : m.pendValid = false) (hcnt : m.cnt.toNat ≤ 32) (bits : List Bool) :
    (fed m bits).cnt.toNat = min (m.cnt.toNat + bits.length) 32 := by
  induction bits using List.reverseRecOn with
  | nil => exact (min_eq_left hcnt).symm
  | append_singleton bits b ih =>
    rw [fed_concat_shiftBit h, Manchester.shiftBit_cnt_toNat, ih, List.length_append, List.length_singleton]
    omega

end

/-- Settles O33: induction on the bits, the newest one last. -/
theorem manchesterKeepsTheLast32Bits : Obligations.ManchesterKeepsTheLast32Bits :=
  fun _ bits h hcnt => ⟨fed_acc_toNat h bits, fed_cnt_toNat h hcnt bits, fed_pendValid h bits⟩

/-! ### The four commands of a paused block -/

section
variable {s : State}

/-- MAN_ADD records in the results what `ManAdd` answers (R255). -/
theorem execManAdd_paused {l : Level} {m : Manchester} {r : ManResult} (hp : s.Paused)
    (hadd : s.man.add l = (m, r)) :
    exec (.manAdd l) s =
      .next { s with
        cmd := results s (manResultWords r).1 (manResultWords r).2.1 (manResultWords r).2.2, man := m } := by
  have hexec : exec (.manAdd l) s = execManAdd l s := rfl
  rw [hexec, execManAdd, component_paused hp.1 hp.2, hadd]
  rfl

theorem execManPopAll_paused (hp : s.Paused) :
    exec .manPopAll s =
      .next { s with cmd := results s s.man.acc (s.man.cnt.setWidth 32) true, man := s.man.pop } :=
  exec_paused hp rfl (by rfl)

theorem execManSize_paused (hp : s.Paused) :
    exec .manSize s = .next { s with cmd := results s (s.man.cnt.setWidth 32) 0 true } :=
  exec_paused hp rfl (by rfl)

theorem execManReset_paused (hp : s.Paused) :
    exec .manReset s = .next { s with cmd := done s, man := Manchester.reset } :=
  exec_paused hp rfl (by rfl)

end

theorem bitAt_zero (b : Bool) : bitAt 0 b = if b then 1 else 0 := by
  cases b
  · exact bitAt_zero_false
  · exact bitAt_zero_true

/-- Settles O30: the three outcomes of `ManAdd`, each with its result words. -/
theorem manAddBuffersDecodesOrRejects : Obligations.ManAddBuffersDecodesOrRejects := by
  intro s l hp
  refine ⟨fun hv => ?buffered, fun hv hl => ?decoded, fun hv hl => ?invalid⟩
  case buffered => exact execManAdd_paused hp (Manchester.add_of_not_pending hv l)
  case decoded =>
    rw [← bitAt_zero]
    exact execManAdd_paused hp (Manchester.add_of_opposite hv (Bool.eq_not.2 hl))
  case invalid => exact execManAdd_paused hp (Manchester.add_of_equal hv hl)

/-- Settles O31: the three commands after the mode checks. -/
theorem manPopAllSizeAndResetHaveTheirResults : Obligations.ManPopAllSizeAndResetHaveTheirResults :=
  fun _ hp => ⟨execManPopAll_paused hp, execManSize_paused hp, execManReset_paused hp⟩

end Sys2Proof.Proofs
end

section
/-! PROOFS. The CRC engine (43_crc16.md R270 to R278): its four commands, and the finalized CRC as a remainder of
polynomials over GF(2). -/

namespace Sys2Proof.Proofs

open Sys2Proof Sys2Proof.Machine Sys2Proof.Claims

/-! ### The bits of a push, one by one (R270, R271) -/

theorem pushBit_eq_crcBit (c : CrcEngine) (d acc : Bool) : c.pushBit d acc = crcBit c d acc := by
  unfold CrcEngine.pushBit crcBit
  cases d <;> cases c.reg.getLsbD 15 <;> simp

/-- The engine after `bits`, in their order. -/
def crcBits (c : CrcEngine) (bits : List Bool) (acc : Bool) : CrcEngine :=
  bits.foldl (fun c d => crcBit c d acc) c

theorem crcBits_cons (c : CrcEngine) (d : Bool) (bits : List Bool) (acc : Bool) :
    crcBits c (d :: bits) acc = crcBits (crcBit c d acc) bits acc := rfl

/-- The bit step leaves the vendor's half of the engine as it is. -/
theorem crcBits_vendor (c : CrcEngine) (bits : List Bool) (acc : Bool) :
    (crcBits c bits acc).poly = c.poly ∧ (crcBits c bits acc).fxor = c.fxor := by
  induction bits generalizing c with
  | nil => exact ⟨rfl, rfl⟩
  | cons d bits ih => exact ih (crcBit c d acc)

theorem msbFirst_succ (v k : Nat) : msbFirst v (k + 1) = v.testBit k :: msbFirst v k := by
  rw [msbFirst, List.range_succ_eq_map, List.map_cons, List.map_map]
  exact congrArg (v.testBit k :: ·) (List.map_congr_left fun i _ => congrArg v.testBit (by omega))

/-- Pushing `n` bits of a word is the bit step on each of them, the most significant first. -/
theorem push_eq_crcBits (c : CrcEngine) (data : Word) (n : Nat) (acc : Bool) :
    c.push data n acc = crcBits c (msbFirst data.toNat n) acc := by
  induction n generalizing c with
  | zero => rfl
  | succ k ih =>
    rw [msbFirst_succ, crcBits_cons, ← ih, ← pushBit_eq_crcBit]
    rfl

theorem msbFirst_of_zero (n : Nat) : msbFirst 0 n = List.replicate n false := by
  induction n with
  | zero => rfl
  | succ k ih => rw [msbFirst_succ, ih, Nat.zero_testBit, List.replicate_succ]

/-- The value of a finalize is the register flushed by 16 zero bits, XOR the final XOR (R272). -/
theorem finalize_eq_flushed (c : CrcEngine) :
    c.finalize = (crcBits c (List.replicate 16 false) false).reg ^^^ c.fxor := by
  rw [CrcEngine.finalize, push_eq_crcBits, ← msbFirst_of_zero]
  rfl

/-! ### The four commands of a paused block -/

section
variable {s : State}

theorem execCrcPush_paused {n : BitVec 6} {acc : Bool} (hp : s.Paused) (hn : n.toNat ≤ 32) :
    exec (.crcPush n acc) s = .next { s with cmd := done s, crc := s.crc.push s.cmd.arg0 n.toNat acc } := by
  have hexec : exec (.crcPush n acc) s = execCrcPush n acc s := rfl
  rw [hexec, execCrcPush, crcBitCount_of_le hn]
  exact component_paused hp.1 hp.2

theorem execCrcFinalize_paused (hp : s.Paused) :
    exec .crcFinalize s = .next { s with cmd := results s (s.crc.finalize.setWidth 32) 0 true } :=
  exec_paused hp rfl (by rfl)

theorem execCrcReset_paused (hp : s.Paused) :
    exec .crcReset s = .next { s with cmd := done s, crc := s.crc.clear } :=
  exec_paused hp rfl (by rfl)

theorem execCrcSelect_paused (hp : s.Paused) (v : BitVec 2) :
    exec (.crcSelect v) s = .next { s with cmd := done s, crc := s.crc.select (s.cfg.vendor v) } :=
  exec_paused hp rfl (by rfl)

end

/-- Settles O34: the push is the bit step on the low bits of ARG0, the most significant first. -/
theorem crcPushShiftsTheBitsMsbFirst : Obligations.CrcPushShiftsTheBitsMsbFirst := by
  intro s n acc hp hn
  rw [execCrcPush_paused hp hn, push_eq_crcBits]
  rfl

/-- Settles O35: the command writes only the results, which its value does not depend on. -/
theorem crcFinalizeReturnsTheFlushedRegisterIdempotently :
    Obligations.CrcFinalizeReturnsTheFlushedRegisterIdempotently := by
  intro s hp flushed t
  have hvalue : flushed.reg ^^^ s.crc.fxor = s.crc.finalize := (finalize_eq_flushed s.crc).symm
  have ht : t = { s with cmd := results s (s.crc.finalize.setWidth 32) 0 true } := by rw [← hvalue]
  have hpaused : t.Paused := hp
  rw [execCrcFinalize_paused hp, execCrcFinalize_paused hpaused, ht]
  exact ⟨rfl, rfl⟩

/-- Settles O37: the two commands after the mode checks. -/
theorem crcResetAndSelectChangeTheirHalves : Obligations.CrcResetAndSelectChangeTheirHalves :=
  fun _ hp => ⟨execCrcReset_paused hp, execCrcSelect_paused hp⟩

/-! ### Words as polynomials over GF(2) (R274) -/

section
open Polynomial

/-- The coefficient a bit stands for. -/
noncomputable def bitCoeff (b : Bool) : ZMod 2 := if b then 1 else 0

@[simp] theorem bitCoeff_false : bitCoeff false = 0 := rfl

@[simp] theorem bitCoeff_true : bitCoeff true = 1 := rfl

theorem bitCoeff_xor (a b : Bool) : bitCoeff (a ^^ b) = bitCoeff a + bitCoeff b := by
  cases a <;> cases b <;> decide

theorem coeff_wordPoly (v : BitVec 16) (i : Nat) : (wordPoly v).coeff i = bitCoeff (v.getLsbD i) := by
  rw [wordPoly, finsetSum_coeff]
  simp only [coeff_monomial, Finset.sum_ite_eq', Finset.mem_range]
  rcases lt_or_ge i 16 with hi | hi
  · exact if_pos hi
  · rw [if_neg hi.not_gt, BitVec.getLsbD_of_ge v i hi, bitCoeff_false]

theorem wordPoly_xor (v w : BitVec 16) : wordPoly (v ^^^ w) = wordPoly v + wordPoly w := by
  ext i
  simp only [coeff_add, coeff_wordPoly, BitVec.getLsbD_xor, bitCoeff_xor]

@[simp] theorem wordPoly_zero : wordPoly 0#16 = 0 := by
  ext i
  rw [coeff_wordPoly, BitVec.getLsbD_zero, bitCoeff_false, coeff_zero]

theorem degree_wordPoly_lt (v : BitVec 16) : (wordPoly v).degree < (16 : ℕ) := by
  refine (degree_lt_iff_coeff_zero _ 16).2 fun i hi => ?_
  rw [coeff_wordPoly, BitVec.getLsbD_of_ge v i hi, bitCoeff_false]

/-- The shift of a word multiplies by x, adds the incoming bit, and moves bit 15 out to x^16. -/
theorem wordPoly_shiftIn (v : BitVec 16) (d : Bool) :
    wordPoly ((v <<< 1) ||| if d then 1 else 0) + C (bitCoeff (v.getLsbD 15)) * X ^ 16 =
      wordPoly v * X + C (bitCoeff d) := by
  ext i
  rcases i with - | i
  · cases d <;> simp [coeff_wordPoly]
  · have hshift : (v <<< 1 ||| if d then 1 else 0).getLsbD (i + 1) = (decide (i + 1 < 16) && v.getLsbD i) := by
      cases d <;> simp
    rw [coeff_add, coeff_add, coeff_wordPoly, hshift, coeff_C_mul, coeff_X_pow, coeff_mul_X, coeff_C_succ, add_zero,
      coeff_wordPoly]
    rcases lt_trichotomy i 15 with hi | rfl | hi
    · simp [Nat.succ_lt_succ hi, hi.ne]
    · simp
    · simp [hi.ne', BitVec.getLsbD_of_ge v i hi]

/-! ### The register as a remainder (R274) -/

/-- The generator x^16 + P(x). -/
noncomputable def generator (c : CrcEngine) : (ZMod 2)[X] := X ^ 16 + wordPoly c.poly

theorem generator_monic (c : CrcEngine) : (generator c).Monic := monic_X_pow_add (degree_wordPoly_lt c.poly)

theorem degree_wordPoly_lt_generator (v : BitVec 16) (c : CrcEngine) :
    (wordPoly v).degree < (generator c).degree := by
  have hdeg : (generator c).degree = (16 : ℕ) := by
    rw [generator, degree_add_eq_left_of_degree_lt, degree_X_pow]
    rw [degree_X_pow]
    exact degree_wordPoly_lt c.poly
  rw [hdeg]
  exact degree_wordPoly_lt v

/-- The bit step is multiplication by x and addition of the bit, less the generator where bit 15 moves out. -/
theorem wordPoly_crcBit (c : CrcEngine) (d acc : Bool) :
    wordPoly (crcBit c d acc).reg + generator c * C (bitCoeff (c.reg.getLsbD 15)) =
      wordPoly c.reg * X + C (bitCoeff d) := by
  have hpoly : wordPoly (if c.reg.getLsbD 15 then c.poly else 0) =
      wordPoly c.poly * C (bitCoeff (c.reg.getLsbD 15)) := by
    cases c.reg.getLsbD 15 <;> simp
  have htwice := CharTwo.add_self_eq_zero (wordPoly c.poly * C (bitCoeff (c.reg.getLsbD 15)))
  rw [← wordPoly_shiftIn, crcBit, wordPoly_xor, hpoly, generator]
  linear_combination htwice

/-- One bit step of a remainder is the remainder of one step of Horner's rule. -/
theorem crcBit_remainder {c : CrcEngine} {p : (ZMod 2)[X]} (h : wordPoly c.reg = p %ₘ generator c) (d acc : Bool) :
    wordPoly (crcBit c d acc).reg = (p * X + C (bitCoeff d)) %ₘ generator c := by
  have hstep := wordPoly_crcBit c d acc
  have hdiv := modByMonic_add_div p (generator c)
  refine ((div_modByMonic_unique (p /ₘ generator c * X + C (bitCoeff (c.reg.getLsbD 15))) _ (generator_monic c)
    ⟨?_, degree_wordPoly_lt_generator _ c⟩).2).symm
  linear_combination hstep + X * h + X * hdiv

/-- A bit list read after a polynomial `p`, by Horner's rule. -/
noncomputable def hornerPoly (p : (ZMod 2)[X]) (bits : List Bool) : (ZMod 2)[X] :=
  bits.foldl (fun p b => p * X + C (bitCoeff b)) p

theorem messagePoly_eq_hornerPoly (bits : List Bool) : messagePoly bits = hornerPoly 0 bits := rfl

theorem crcBits_remainder {c : CrcEngine} {p : (ZMod 2)[X]} (h : wordPoly c.reg = p %ₘ generator c)
    (bits : List Bool) (acc : Bool) :
    wordPoly (crcBits c bits acc).reg = hornerPoly p bits %ₘ generator c := by
  induction bits generalizing c p with
  | nil => exact h
  | cons d bits ih => exact ih (c := crcBit c d acc) (crcBit_remainder h d acc)

theorem hornerPoly_zeros (p : (ZMod 2)[X]) (n : Nat) : hornerPoly p (List.replicate n false) = p * X ^ n := by
  induction n generalizing p with
  | zero => simp [hornerPoly]
  | succ n ih =>
    have hstep : hornerPoly p (List.replicate (n + 1) false) = hornerPoly (p * X + C 0) (List.replicate n false) := rfl
    rw [hstep, ih, C_0, add_zero, pow_succ', mul_assoc]

/-- Settles O36: the register is the remainder of what has been pushed, and the flush pushes the factor x^16. -/
theorem crcFinalizeIsThePolynomialRemainder : Obligations.CrcFinalizeIsThePolynomialRemainder := by
  intro c bits hreg
  simp only [pushBit_eq_crcBit]
  rw [messagePoly_eq_hornerPoly]
  change wordPoly ((crcBits c bits true).finalize ^^^ c.fxor) = (hornerPoly 0 bits * X ^ 16) %ₘ generator c
  obtain ⟨hpoly, hfxor⟩ := crcBits_vendor c bits true
  have hgen : generator (crcBits c bits true) = generator c := by rw [generator, hpoly, generator]
  have hstart : wordPoly c.reg = 0 %ₘ generator c := by
    rw [hreg, zero_modByMonic]
    exact wordPoly_zero
  have hmessage := crcBits_remainder hstart bits true
  rw [← hgen] at hmessage ⊢
  rw [finalize_eq_flushed, hfxor, BitVec.xor_assoc, BitVec.xor_self, BitVec.xor_zero,
    crcBits_remainder hmessage, hornerPoly_zeros]

end

end Sys2Proof.Proofs
end

section
/-! PROOFS. The levels on their way into the state machine (44_receiver.md R300, R320): how often a level is replayed,
and that a step emits at most one message (R318). -/

namespace Sys2Proof.Proofs

open Sys2Proof Sys2Proof.Machine Sys2Proof.Claims

/-! ### The replays of a level (R300) -/

/-- A symbol count is at most 2, so no replay goes further than two steps of the state machine. -/
theorem replay_of_le_two (b : Level) {n : Nat} (hn : n ≤ 2) (s : State) :
    replay b n s =
      if n = 0 ∨ s.ctrl.fatal = true then s
      else if n = 1 ∨ (smStep b s).ctrl.fatal = true then smStep b s
      else smStep b (smStep b s) := by
  match n, hn with
  | 0, _ => rfl
  | 1, _ => simp [replay]
  | 2, _ => simp [replay]

/-! ### RX_PUSH_LEVEL (R300, R320) -/

theorem execRxPushLevel_paused {s : State} (hp : s.Paused) (l : Level) :
    exec (.rxPushLevel l) s = .next (finish (rxPush l s)) := exec_paused hp rfl (by rfl)

/-- A command that has moved what the receiver owns ends with its own record. -/
theorem finish_of_receiverFrame {s t : State} (h : ReceiverFrame s t) :
    finish t = { s with
      ctrl := t.ctrl, evt := t.evt, cmd := done s, rx := t.rx, trk := t.trk, man := t.man, crc := t.crc
      cur := t.cur, msg := t.msg, counters := t.counters, msgOut := t.msgOut } := by
  unfold ReceiverFrame at h
  conv_lhs => rw [h]
  rfl

theorem receiverFrame_cmd {s t : State} (h : ReceiverFrame s t) : t.cmd = s.cmd := by
  unfold ReceiverFrame at h
  rw [h]

/-- Settles O38: the frame of every pushed level, and the replays written out. -/
theorem rxPushLevelRegistersTheLevel : Obligations.RxPushLevelRegistersTheLevel := by
  intro s l hp
  have hexec := execRxPushLevel_paused hp l
  have hkeeps := rxPush_keeps l s
  obtain ⟨hrun, hconf⟩ := hp
  refine ⟨⟨_, hexec, rxPush_prevLevel l s, hkeeps.level, hkeeps.sample, hkeeps.configured.trans hconf,
    hkeeps.run hrun, hkeeps.enable, finish_of_receiverFrame (rxPush_frame l s)⟩, ?_⟩
  rcases rxPush_cases l s with ⟨hl, hpush⟩ | ⟨hl, hpush⟩ <;> rw [hexec, hpush]
  · exact ⟨fun _ => rfl, fun hne => absurd hl hne⟩
  · refine ⟨fun heq => absurd heq hl, ?_⟩
    intro _ n once t
    have ht : replay s.rx.prevLevel s.trk.curCount (count .level s) = t :=
      replay_of_le_two _ (curCount_le_two s.trk) _
    have hcmd : t.cmd = s.cmd := ht ▸ receiverFrame_cmd (replay_frame _ _ _)
    rw [ht, done, ← hcmd]
    rfl

/-! ### Silent steps and emissions (R316, R318) -/

/-- Nothing goes out on the message stream, and MSG_COUNT stays. -/
def Silent (s t : State) : Prop := t.msgOut = s.msgOut ∧ t.counters.msg = s.counters.msg

/-- One message goes out and is counted. -/
def Emits (s t : State) : Prop := t.msgOut.isSome ∧ t.counters.msg = s.counters.msg + 1

theorem Silent.trans {s t u : State} (h : Silent s t) (k : Silent t u) : Silent s u :=
  ⟨k.1.trans h.1, k.2.trans h.2⟩

theorem Emits.after_silent {s t u : State} (h : Silent s t) (k : Emits t u) : Emits s u :=
  ⟨k.1, k.2.trans (congrArg (· + 1) h.2)⟩

theorem Emits.then_silent {s t u : State} (h : Emits s t) (k : Silent t u) : Emits s u :=
  ⟨k.1 ▸ h.1, k.2.trans h.2⟩

/-- What a part of the datapath does to the messages: at most one emission. -/
def SilentOrEmits (s t : State) : Prop := Silent s t ∨ Emits s t

theorem SilentOrEmits.after_silent {s t u : State} (h : Silent s t) (k : SilentOrEmits t u) : SilentOrEmits s u :=
  k.imp h.trans (Emits.after_silent h)

theorem SilentOrEmits.then_silent {s t u : State} (h : SilentOrEmits s t) (k : Silent t u) : SilentOrEmits s u :=
  h.imp (·.trans k) (·.then_silent k)

/-! ### The state machine emits at most once, and then hunts for SYNC -/

/-- Only the CRC field's completion emits, and it ends the frame (R310, R311). -/
theorem completeField_messages (v : Word) (w : Nat) (s : State) :
    Silent s (completeField v w s) ∨
      (Emits s (completeField v w s) ∧ (completeField v w s).rx.state = stSync) := by
  rcases completeField_cases v w s with ⟨-, h⟩ | ⟨-, h⟩ | ⟨-, h⟩ | ⟨-, h⟩ | ⟨-, -, -, -, h⟩ <;> rw [h]
  · unfold completeChannel
    simp only
    split_ifs <;> exact .inl ⟨rfl, rfl⟩
  · exact .inl ⟨rfl, rfl⟩
  · unfold completeTxid
    simp only
    split_ifs <;> exact .inl ⟨rfl, rfl⟩
  · exact .inl ⟨rfl, rfl⟩
  · unfold completeCrc
    split_ifs
    · exact .inr ⟨⟨rfl, rfl⟩, rfl⟩
    · exact .inl ⟨rfl, rfl⟩

theorem syncArm_silent (b : Level) (s : State) : Silent s (syncArm b s) := by
  rcases syncArm_cases b s with h | h <;> rw [h] <;> exact ⟨rfl, rfl⟩

theorem smStep_sync {s : State} (h : s.rx.state = stSync) (b : Level) : smStep b s = syncArm b s := if_pos h

theorem smStep_messages (b : Level) (s : State) :
    Silent s (smStep b s) ∨ (Emits s (smStep b s) ∧ (smStep b s).rx.state = stSync) := by
  rcases smStep_cases b s with ⟨-, h⟩ | ⟨-, -, h⟩ | ⟨-, h⟩ <;> rw [h]
  · exact .inl (syncArm_silent b s)
  · rcases fieldArm_cases b s with ⟨-, h⟩ | ⟨-, -, h⟩ | ⟨-, -, h⟩ <;> rw [h]
    · exact .inl ⟨rfl, rfl⟩
    · exact .inl ⟨rfl, rfl⟩
    · exact completeField_messages _ _ { s with man := (s.man.add b).1.pop }
  · exact .inl ⟨rfl, rfl⟩

/-- Of the two steps a level may be replayed for, the second emits nothing if the first has (R318). -/
theorem replay_messages (b : Level) {n : Nat} (hn : n ≤ 2) (s : State) : SilentOrEmits s (replay b n s) := by
  have honce : SilentOrEmits s (smStep b s) := (smStep_messages b s).imp_right (·.1)
  rw [replay_of_le_two b hn]
  split_ifs
  · exact .inl ⟨rfl, rfl⟩
  · exact honce
  · rcases smStep_messages b s with hsilent | ⟨hemits, hsync⟩
    · exact .after_silent hsilent ((smStep_messages b _).imp_right (·.1))
    · refine .inr (hemits.then_silent ?_)
      rw [smStep_sync hsync]
      exact syncArm_silent b _

theorem rxPush_messages (l : Level) (s : State) : SilentOrEmits s (rxPush l s) := by
  rcases rxPush_cases l s with ⟨-, h⟩ | ⟨-, h⟩ <;> rw [h]
  · exact .inl ⟨rfl, rfl⟩
  · have hcounted : Silent s (count .level s) := ⟨rfl, rfl⟩
    have hreplay := replay_messages s.rx.prevLevel (curCount_le_two s.trk) (count .level s)
    exact (SilentOrEmits.after_silent hcounted hreplay).then_silent ⟨rfl, rfl⟩

/-- A pipeline step pushes at most one level (40_filter.md R190). -/
theorem pipelineStep_messages {x : C32} {s t : State} (h : pipelineStep x s = .ok t) : SilentOrEmits s t := by
  rcases pipelineStep_ok h with h0 | ⟨s1, o0, h0, h1⟩
  · obtain ⟨r0, -, -, rfl⟩ := filterStage0_ok h0
    exact .inl ⟨rfl, rfl⟩
  · obtain ⟨r0, -, -, rfl⟩ := filterStage0_ok h0
    rcases h1 with h1 | ⟨s2, o1, h1, h2⟩
    · obtain ⟨r1, -, -, rfl⟩ := filterStage1_ok h1
      exact .inl ⟨rfl, rfl⟩
    · obtain ⟨r1, -, -, rfl⟩ := filterStage1_ok h1
      rcases h2 with h2 | ⟨s3, o2, h2, rfl⟩ <;> obtain ⟨r2, -, -, rfl⟩ := filterStage2_ok h2
      · exact .inl ⟨rfl, rfl⟩
      · exact .after_silent ⟨rfl, rfl⟩ (rxPush_messages _ _)

/-! ### Every command and every access -/

/-- Everything that can happen to the messages, where `Clearing` says what MSG_COUNT may be cleared by. -/
inductive MessageEffect (Clearing : Prop) (s t : State) : Prop
  | silent (h : Silent s t)
  | emits (h : Emits s t)
  | cleared (hcause : Clearing) (hout : t.msgOut = none ∨ t.msgOut = s.msgOut) (hzero : t.counters.msg = 0)

theorem MessageEffect.of_silentOrEmits {Clearing : Prop} {s t : State} (h : SilentOrEmits s t) :
    MessageEffect Clearing s t := h.elim .silent .emits

/-- The effect is the same from a state that differs in nothing the messages are made of, under any weaker
condition for the clearing. -/
theorem MessageEffect.of_start {C D : Prop} {s u t : State} (hstart : Silent s u) (hcause : C → D)
    (h : MessageEffect C u t) : MessageEffect D s t := by
  cases h with
  | silent h => exact .silent (hstart.trans h)
  | emits h => exact .emits (.after_silent hstart h)
  | cleared hc hout hzero => exact .cleared (hcause hc) (hout.imp_right (·.trans hstart.1)) hzero

/-- A rejected command sends nothing (45_control.md R341), so a component command does to the messages what its
body does. -/
theorem MessageEffect.of_component {Clearing : Prop} {body : State → Host.Outcome State Fault Refusal} {s t : State}
    (hbody : body s = .next t → MessageEffect Clearing s t) (h : component body s = .next t) :
    MessageEffect Clearing s t := by
  rcases component_cases body s with ⟨-, e⟩ | ⟨-, -, e⟩ | ⟨-, -, e⟩ <;> rw [e] at h
  · cases h; exact .silent ⟨rfl, rfl⟩
  · cases h; exact .silent ⟨rfl, rfl⟩
  · exact hbody h

/-- A CONFIGURE that passes its checks (45_control.md R345). -/
def ConfigurePasses (s : State) : Prop :=
  s.ctrl.run = false ∧ checkConfig Config.maxTaps Config.maxOsc s = none

section
variable {Clearing : Prop} {s t : State}

theorem execConfigure_messages (h : execConfigure s = .next t) : MessageEffect (ConfigurePasses s) s t := by
  rcases execConfigure_cases s with ⟨-, e⟩ | ⟨code, index, -, -, e⟩ | ⟨hrun, hcheck, e⟩ <;> cases e.symm.trans h
  · exact .silent ⟨rfl, rfl⟩
  · exact .silent ⟨rfl, rfl⟩
  · exact .cleared ⟨hrun, hcheck⟩ (.inr rfl) rfl

theorem execPipePush_messages (h : execPipePush s = .next t) : MessageEffect Clearing s t := by
  unfold execPipePush at h
  split at h
  · split at h <;> cases h
    rename_i u e
    exact .of_silentOrEmits ((pipelineStep_messages e).then_silent ⟨rfl, rfl⟩)
  · cases h
    exact .silent ⟨rfl, rfl⟩

theorem execRxPushLevel_messages {l : Level} (h : execRxPushLevel l s = .next t) : MessageEffect Clearing s t := by
  refine .of_component (fun h => ?_) h
  cases h
  exact .of_silentOrEmits ((rxPush_messages l s).then_silent ⟨rfl, rfl⟩)

theorem execOscNext_messages {sel : BitVec 2} (h : execOscNext sel s = .next t) : MessageEffect Clearing s t := by
  unfold execOscNext at h
  split at h
  · cases h
    exact .silent ⟨rfl, rfl⟩
  · rename_i sid _
    refine .of_component (fun h => ?_) h
    split at h
    · split at h <;> cases h
      exact .silent ⟨setStage_msgOut _ _ _, congrArg Counters.msg (setStage_counters _ _ _)⟩
    · cases h
      exact .silent ⟨rfl, rfl⟩

/-- FILT_COMPUTE's output goes nowhere but the results (40_filter.md R195). -/
theorem finishFilter_silent (out : Option (F32 × F32)) (s : State) : Silent s (finishFilter out s) := by
  rw [finishFilter_frame]
  exact ⟨rfl, rfl⟩

theorem execFiltCompute_messages {sel : BitVec 2} (h : execFiltCompute sel s = .next t) :
    MessageEffect Clearing s t := by
  unfold execFiltCompute at h
  split at h
  · cases h
    exact .silent ⟨rfl, rfl⟩
  · refine .of_component (fun h => ?_) h
    split at h <;> cases h
    rename_i u out e
    obtain ⟨r, -, -, rfl⟩ := filterStage0_ok e
    exact .silent (finishFilter_silent _ _)
  · refine .of_component (fun h => ?_) h
    split at h <;> cases h
    rename_i u out e
    obtain ⟨r, -, -, rfl⟩ := filterStage1_ok e
    exact .silent (finishFilter_silent _ _)
  · refine .of_component (fun h => ?_) h
    split at h <;> cases h
    rename_i u out e
    obtain ⟨r, -, -, rfl⟩ := filterStage2_ok e
    exact .silent (finishFilter_silent _ _)

theorem execCrcPush_messages {n : BitVec 6} {acc : Bool} (h : execCrcPush n acc s = .next t) :
    MessageEffect Clearing s t := by
  unfold execCrcPush at h
  split at h
  · cases h
    exact .silent ⟨rfl, rfl⟩
  · refine .of_component (fun h => ?_) h
    cases h
    exact .silent ⟨rfl, rfl⟩

/-- Of the commands, PIPE_PUSH and RX_PUSH_LEVEL can emit, and CONFIGURE alone can clear MSG_COUNT. -/
theorem exec_messages {i : Instr} (h : exec i s = .next t) :
    MessageEffect (i = .configure ∧ ConfigurePasses s) s t := by
  cases i with
  | nop => cases h; exact .silent ⟨rfl, rfl⟩
  | configure => exact .of_start ⟨rfl, rfl⟩ (fun hpasses => ⟨rfl, hpasses⟩) (execConfigure_messages h)
  | pipePush => exact execPipePush_messages h
  | rxPushLevel lvl => exact execRxPushLevel_messages h
  | oscNext sel => exact execOscNext_messages h
  | filtCompute sel => exact execFiltCompute_messages h
  | crcPush n acc => exact execCrcPush_messages h
  | rxAbort | trkExtend | trkStartSymbol | trkCount | trkLockAvg | trkResetAvg | manAdd | manPopAll | manSize
  | manReset | crcFinalize | crcReset | crcSelect =>
    unfold exec at h
    refine .of_component (fun h => ?_) h
    cases h
    exact .silent ⟨rfl, rfl⟩

end

/-- The accesses that clear MSG_COUNT: a soft reset, and a CMD write of CONFIGURE that passes its checks
(10_state.md R59). -/
def ClearsMessages (op : BusOp) (s : State) : Prop :=
  (∃ w, op = .write 0x004 w 0xF ∧ w.getLsbD 1 = true) ∨ (op = .write 0x020 0x01000000 0xF ∧ ConfigurePasses s)

theorem ctrlWrite_messages (w : Word) (s : State) :
    MessageEffect (w.getLsbD 1 = true) s (ctrlWrite w s) := by
  unfold ctrlWrite
  split
  · exact .cleared (by assumption) (.inl rfl) rfl
  · exact .silent ⟨rfl, rfl⟩

theorem cmdWrite_messages {w : Word} {s t : State} (h : cmdWrite w s = .next t) :
    MessageEffect (w = 0x01000000 ∧ ConfigurePasses s) s t := by
  unfold cmdWrite at h
  split at h
  · cases h
    exact .silent ⟨rfl, rfl⟩
  · rename_i i hdecode
    refine .of_start (u := latchCommand w s) ⟨rfl, rfl⟩ ?_ (exec_messages h)
    rintro ⟨rfl, hpasses⟩
    obtain ⟨hword, -⟩ := encodeOfDecodeIsTheWord w _ hdecode
    exact ⟨hword.symm, hpasses⟩

theorem busWrite_messages {a : Addr} {w : Word} {strobes : BitVec 4} {s t : State}
    (h : busWrite a w strobes s = .next t) : MessageEffect (ClearsMessages (.write a w strobes) s) s t := by
  rcases busWrite_cases a w strobes s with ⟨-, e⟩ | ⟨-, -, e⟩ | ⟨r, hfull, ha, e⟩ | ⟨r, -, -, -, e⟩ <;> rw [e] at h
  · cases h; exact .silent ⟨rfl, rfl⟩
  · cases h; exact .silent ⟨rfl, rfl⟩
  · subst hfull
    cases r with
    | ctrl =>
      cases h
      cases regAt_injective ha regAt_ctrl
      exact .of_start (u := { s with busOut := some (.write .okay) }) ⟨rfl, rfl⟩
        (fun hw => .inl ⟨w, rfl, hw⟩) (ctrlWrite_messages w _)
    | cmd =>
      cases regAt_injective ha regAt_cmd
      refine .of_start (u := { s with busOut := some (.write .okay) }) ⟨rfl, rfl⟩ ?_ (cmdWrite_messages h)
      rintro ⟨rfl, hpasses⟩
      exact .inr ⟨rfl, hpasses⟩
    | evtStatus => cases h; exact .silent ⟨rfl, rfl⟩
    | evtEnable => cases h; exact .silent ⟨rfl, rfl⟩
    | arg0 => cases h; exact .silent ⟨rfl, rfl⟩
    | arg1 => cases h; exact .silent ⟨rfl, rfl⟩
  · cases h
    unfold writeCfg
    rw [storeCfg_frame]
    exact .silent ⟨rfl, rfl⟩

theorem busAccess_messages {op : BusOp} {s t : State} (h : busAccess op s = .next t) :
    MessageEffect (ClearsMessages op s) s t := by
  cases op with
  | read a =>
    cases h
    rw [busRead_frame]
    exact .silent ⟨rfl, rfl⟩
  | write a w strobes => exact busWrite_messages h

/-- The turns that clear MSG_COUNT. -/
def TurnClearsMessages (s : State) : Prop :=
  (∃ ts, s.turns = .reset :: ts) ∨ ∃ ts op ops, s.turns = .host :: ts ∧ s.bus = op :: ops ∧ ClearsMessages op s

theorem step_messages {s t : State} (h : step s = .next t) :
    MessageEffect (TurnClearsMessages s) (quiet s) t := by
  rcases step_cases s with ⟨-, e⟩ | ⟨ts, hturn, e⟩ | ⟨ts, -, -, e⟩ | ⟨ts, op, ops, hturn, hbus, e⟩ | ⟨ts, -, -, e⟩ |
    ⟨ts, x, xs, -, -, -, e⟩ <;> rw [e] at h
  · cases h; exact .silent ⟨rfl, rfl⟩
  · cases h; exact .cleared (.inl ⟨ts, hturn⟩) (.inl rfl) rfl
  · cases h; exact .silent ⟨rfl, rfl⟩
  · exact .of_start (u := { quiet s with turns := ts, bus := ops }) ⟨rfl, rfl⟩
      (fun hclears => .inr ⟨ts, op, ops, hturn, hbus, hclears⟩) (busAccess_messages h)
  · cases h; exact .silent ⟨rfl, rfl⟩
  · cases hx : pipelineStep x { quiet s with turns := ts, samples := xs } with
    | error f => rw [hx] at h; cases h
    | ok u =>
      rw [hx] at h
      cases h
      have hstart : Silent (quiet s) { quiet s with turns := ts, samples := xs } := ⟨rfl, rfl⟩
      exact .of_silentOrEmits (.after_silent hstart (pipelineStep_messages hx))

/-- Settles O45: the step starts with the message stream quiet, and then has one of the three effects. -/
theorem aStepEmitsAtMostOneMessage : Obligations.AStepEmitsAtMostOneMessage := by
  intro s t hstep
  cases step_messages hstep with
  | silent h =>
    obtain ⟨hout, hcount⟩ := h
    exact .inr ⟨hout, .inl hcount⟩
  | emits h => exact .inl h
  | cleared hcause hout hzero =>
    refine .inr ⟨hout.elim id id, .inr ⟨hzero, hcause.imp_right ?_⟩⟩
    rintro ⟨ts, op, ops, hturn, hbus, ⟨w, rfl, hw⟩ | ⟨rfl, hpasses⟩⟩
    · exact ⟨ts, ops, w, hturn, .inl ⟨hbus, hw⟩⟩
    · exact ⟨ts, ops, 0, hturn, .inr ⟨hbus, hpasses⟩⟩


end Sys2Proof.Proofs
end

section
/-! PROOFS. The states of the framing state machine (44_receiver.md R301 to R317): the hunt for SYNC, the feed of a
field, and what each completed field does. -/

namespace Sys2Proof.Proofs

open Sys2Proof Sys2Proof.Machine Sys2Proof.Claims

/-! ### Words as numbers -/

/-- A shift register after one more bit. -/
theorem shiftIn_bit_toNat (x : Word) (b : Bool) : (x <<< 1 ||| bitAt 0 b).toNat = (2 * x.toNat + b.toNat) % 2 ^ 32 :=
  Manchester.shiftBit_acc_toNat { Manchester.reset with acc := x } b

/-- `mask(n)` cuts a word to its `n` low bits (00_scope.md R13). -/
theorem toNat_and_mask (x : Word) {n : Nat} (hn : n ≤ 32) :
    (x &&& BitVec.ofNat 32 (mask n)).toNat = x.toNat % 2 ^ n := by
  have hpow : 2 ^ n ≤ 2 ^ 32 := Nat.pow_le_pow_right (by decide) hn
  have hmask : (BitVec.ofNat 32 (mask n)).toNat = 2 ^ n - 1 := Nat.mod_eq_of_lt (by unfold mask; omega)
  rw [BitVec.toNat_and, hmask, Nat.and_two_pow_sub_one_eq_mod]

/-- A value of `w` bits joined to what a field holds, earlier bits high (R307 to R309). -/
theorem join_eq_ofNat {n : Nat} (x : BitVec n) {v : Word} {w : Nat} (hv : v.toNat < 2 ^ w) :
    x <<< w ||| v.setWidth n = BitVec.ofNat n (x.toNat * 2 ^ w + v.toNat) := by
  apply BitVec.eq_of_toNat_eq
  rw [BitVec.toNat_or, BitVec.toNat_shiftLeft, BitVec.toNat_setWidth, ← Nat.or_mod_two_pow,
    ← Nat.shiftLeft_add_eq_or_of_lt hv, Nat.shiftLeft_eq, BitVec.toNat_ofNat]

theorem join_word_eq_ofNat (x : Word) {v : Word} {w : Nat} (hv : v.toNat < 2 ^ w) :
    x <<< w ||| v = BitVec.ofNat 32 (x.toNat * 2 ^ w + v.toNat) := by
  rw [← join_eq_ofNat x hv, BitVec.setWidth_eq]

/-! ### The SYNC arm (R301) -/

/-- SYNC_SHIFT after one more level. -/
theorem syncShift_eq (x : Word) (b : Level) {n : Nat} (hn : n ≤ 32) :
    (x <<< 1 ||| bitAt 0 b) &&& BitVec.ofNat 32 (mask n) = BitVec.ofNat 32 ((2 * x.toNat + b.toNat) % 2 ^ n) := by
  have hfits : (2 * x.toNat + b.toNat) % 2 ^ n < 2 ^ 32 :=
    (Nat.mod_lt _ (Nat.two_pow_pos n)).trans_le (Nat.pow_le_pow_right (by decide) hn)
  apply BitVec.eq_of_toNat_eq
  rw [toNat_and_mask _ hn, shiftIn_bit_toNat, Nat.mod_mod_of_dvd _ (Nat.pow_dvd_pow 2 hn), BitVec.toNat_ofNat,
    Nat.mod_eq_of_lt hfits]

/-- Settles O39: the comparison under the mask is one of numbers modulo 2^SYNC_WIDTH. -/
theorem syncMatchLocksTheAverageAndOpensTheFrame : Obligations.SyncMatchLocksTheAverageAndOpensTheFrame := by
  intro s b hstate hn shifted
  have hshift : (s.rx.syncShift <<< 1 ||| bitAt 0 b) &&& BitVec.ofNat 32 (mask s.cfg.syncWidth.toNat) = shifted :=
    syncShift_eq _ _ hn
  have hmatch : shifted = s.cfg.syncPattern &&& BitVec.ofNat 32 (mask s.cfg.syncWidth.toNat) ↔
      shifted.toNat = s.cfg.syncPattern.toNat % 2 ^ s.cfg.syncWidth.toNat := by
    rw [← BitVec.toNat_inj, toNat_and_mask _ hn]
  have harm : smStep b s = syncArm b s := smStep_sync hstate b
  simp only [syncArm, hshift, hmatch] at harm
  exact ⟨fun hne => harm.trans (if_neg hne), fun heq => harm.trans (if_pos heq)⟩

/-! ### The feed of a field (R302, R303) -/

theorem smStep_field {s : State} (h1 : 1 ≤ s.rx.state.toNat) (h5 : s.rx.state.toNat ≤ 5) (b : Level) :
    smStep b s = fieldArm b s := by
  rcases smStep_cases b s with ⟨h, -⟩ | ⟨-, -, h⟩ | ⟨h, -⟩
  · rw [h] at h1
    exact absurd h1 (by decide)
  · exact h
  · omega

/-- A field once the decoder holds `m`: it goes on until the decoder holds its width, and then completes with the
decoder's low bits. -/
def feedField (m : Manchester) (s : State) : State :=
  if m.cnt.toNat < fieldWidth s then { s with man := m }
  else completeField (BitVec.ofNat 32 (m.acc.toNat % 2 ^ fieldWidth s)) (fieldWidth s) { s with man := m.pop }

theorem fieldArm_of_valid {b : Level} {s : State} {m : Manchester} {r : ManResult} (hadd : s.man.add b = (m, r))
    (hr : r ≠ .invalid) : fieldArm b s = feedField m s := by
  unfold fieldArm
  rw [hadd]
  exact if_neg hr

theorem fieldArm_of_invalid {b : Level} {s : State} {m : Manchester} (hadd : s.man.add b = (m, .invalid)) :
    fieldArm b s = raise .manErr (count .manErr { s with man := m }) := by
  unfold fieldArm
  rw [hadd]
  exact if_pos rfl

/-- Settles O41: the three outcomes of `ManAdd`, two of which feed the field. -/
theorem fieldArmDropsOrFeedsALevelAndCompletesAtTheWidth :
    Obligations.FieldArmDropsOrFeedsALevelAndCompletesAtTheWidth := by
  intro s b h1 h5 _ w fed
  have hfed : ∀ m, feedField m s = fed m := fun _ => rfl
  rw [smStep_field h1 h5]
  refine ⟨fun hv hl => ?dropped, fun hv => ?buffered, fun hv hl => ?decoded⟩
  case dropped => exact fieldArm_of_invalid (Manchester.add_of_equal hv hl)
  case buffered => rw [fieldArm_of_valid (Manchester.add_of_not_pending hv b) (by decide), hfed]
  case decoded =>
    rw [fieldArm_of_valid (Manchester.add_of_opposite hv (Bool.eq_not.2 hl)) nofun, hfed, ← bitAt_zero]
    rfl

/-! ### The levels of a value (30_encoding.md R147) -/

theorem msbFirst_length (v w : Nat) : (msbFirst v w).length = w := by simp [msbFirst]

theorem msbFirst_concat (v k : Nat) : msbFirst v (k + 1) = msbFirst (v / 2) k ++ [v.testBit 0] := by
  rw [msbFirst, List.range_succ, List.map_append, msbFirst]
  refine congrArg₂ (· ++ ·) (List.map_congr_left fun i hi => ?_) ?_
  · have hk : k + 1 - 1 - i = k - 1 - i + 1 := by
      have := List.mem_range.1 hi
      omega
    rw [hk, Nat.testBit_succ]
  · simp

theorem bitsValue_msbFirst {v w : Nat} (h : v < 2 ^ w) : bitsValue (msbFirst v w) = v := by
  induction w generalizing v with
  | zero => exact (Nat.lt_one_iff.1 h).symm
  | succ k ih =>
    have hbit : (v.testBit 0).toNat = v % 2 := by
      rw [Nat.testBit_zero]
      rcases Nat.mod_two_eq_zero_or_one v with h | h <;> simp [h]
    rw [msbFirst_concat, bitsValue_concat, ih (by omega), hbit]
    omega

/-- A decoder that starts empty holds as many bits as it is fed, up to 32. -/
theorem fed_cnt_of_empty {m : Manchester} (hpend : m.pendValid = false) (hcnt : m.cnt = 0) (bits : List Bool) :
    (fed m bits).cnt.toNat = min bits.length 32 := by
  have hzero : m.cnt.toNat = 0 := by rw [hcnt]; rfl
  rw [fed_cnt_toNat hpend (hzero.trans_le (Nat.zero_le 32)), hzero, Nat.zero_add]

theorem fed_acc_of_empty {m : Manchester} (hpend : m.pendValid = false) (hacc : m.acc = 0) (bits : List Bool) :
    (fed m bits).acc.toNat = bitsValue bits % 2 ^ 32 := by
  have hzero : m.acc.toNat = 0 := by rw [hacc]; rfl
  rw [fed_acc_toNat hpend, hzero, Nat.zero_mul, Nat.zero_add]

section
variable {s : State} (h1 : 1 ≤ s.rx.state.toNat) (h5 : s.rx.state.toNat ≤ 5) (hpend : s.man.pendValid = false)
include h1 h5 hpend

/-- The two levels of a data bit, as long as the field is not full before the second. -/
theorem smStep_bit (hcnt : s.man.cnt.toNat < fieldWidth s) (b : Bool) :
    smStep b (smStep (!b) s) = feedField ((s.man.add (!b)).1.add b).1 s := by
  have hfirst : smStep (!b) s = { s with man := (s.man.add (!b)).1 } := by
    rw [smStep_field h1 h5, fieldArm_of_valid (add_first_level hpend b) (by decide), add_first_level hpend b]
    exact if_pos hcnt
  have hsecond := add_second_level hpend b
  rw [hfirst, hsecond]
  exact (smStep_field (s := { s with man := (s.man.add (!b)).1 }) h1 h5 b).trans (fieldArm_of_valid hsecond nofun)

/-- Fewer bits than the field is wide only fill the decoder. -/
theorem foldl_smStep_bits (hcnt : s.man.cnt = 0) (bits : List Bool) (hbits : bits.length < fieldWidth s) :
    (levelsOf bits).foldl (fun s b => smStep b s) s = { s with man := fed s.man bits } := by
  induction bits using List.reverseRecOn with
  | nil => rfl
  | append_singleton bits b ih =>
    rw [List.length_append, List.length_singleton] at hbits
    have hfew : (fed s.man bits).cnt.toNat < fieldWidth s := by
      rw [fed_cnt_of_empty hpend hcnt]
      omega
    have hstillFew : (fed s.man (bits ++ [b])).cnt.toNat < fieldWidth s := by
      rw [fed_cnt_of_empty hpend hcnt, List.length_append, List.length_singleton]
      omega
    rw [levelsOf_concat, List.foldl_append, ih (by omega)]
    refine (smStep_bit (s := { s with man := fed s.man bits }) h1 h5 (fed_pendValid hpend bits) hfew b).trans ?_
    rw [← fed_concat]
    exact if_pos hstillFew

/-- The last bit of a field completes it with the value of all its bits. -/
theorem foldl_smStep_bits_complete (hcnt : s.man.cnt = 0) (hacc : s.man.acc = 0) (hw : fieldWidth s ≤ 32)
    (bits : List Bool) (b : Bool) (hbits : bits.length + 1 = fieldWidth s) :
    (levelsOf (bits ++ [b])).foldl (fun s b => smStep b s) s =
      completeField (BitVec.ofNat 32 (bitsValue (bits ++ [b]) % 2 ^ 32 % 2 ^ fieldWidth s)) (fieldWidth s)
        { s with man := { pendLevel := !b, pendValid := false, cnt := 0, acc := 0 } } := by
  have hfew : (fed s.man bits).cnt.toNat < fieldWidth s := by
    rw [fed_cnt_of_empty hpend hcnt]
    omega
  rw [levelsOf_concat, List.foldl_append, foldl_smStep_bits h1 h5 hpend hcnt bits (by omega)]
  refine (smStep_bit (s := { s with man := fed s.man bits }) h1 h5 (fed_pendValid hpend bits) hfew b).trans ?_
  have hfull : ¬ (fed s.man (bits ++ [b])).cnt.toNat < fieldWidth s := by
    rw [fed_cnt_of_empty hpend hcnt, List.length_append, List.length_singleton]
    omega
  have hpop : (fed s.man (bits ++ [b])).pop = { pendLevel := !b, pendValid := false, cnt := 0, acc := 0 } := by
    rw [fed_concat_shiftBit hpend]
    rfl
  rw [← fed_concat, ← fed_acc_of_empty hpend hacc, ← hpop]
  exact if_neg hfull

end

/-- Settles O40: all bits but the last fill the decoder, the last one completes the field. -/
theorem fieldLevelsCompleteTheFieldWithItsValue : Obligations.FieldLevelsCompleteTheFieldWithItsValue := by
  intro s v h1 h5 hpend hcnt hacc hw1 hw hv
  obtain ⟨k, hk⟩ := Nat.exists_eq_add_of_le' hw1
  have hbits : msbFirst v (fieldWidth s) = msbFirst (v / 2) k ++ [v.testBit 0] := by rw [hk, msbFirst_concat]
  have hv32 : v < 2 ^ 32 := hv.trans_le (Nat.pow_le_pow_right (by decide) hw)
  rw [hbits, foldl_smStep_bits_complete h1 h5 hpend hcnt hacc hw _ _ (by rw [msbFirst_length, hk]), ← hbits,
    bitsValue_msbFirst hv, Nat.mod_eq_of_lt hv32, Nat.mod_eq_of_lt hv]

/-! ### The completed field, by state -/

section
variable {s : State} (v : Word) (w : Nat)

theorem completeField_channel (h : s.rx.state = 1) : completeField v w s = completeChannel v s := if_pos h

theorem completeField_header (h : s.rx.state = 2) : completeField v w s = completeHeader v w s := by
  rw [completeField, h]
  rfl

theorem completeField_txid (h : s.rx.state = 3) : completeField v w s = completeTxid v w s := by
  rw [completeField, h]
  rfl

theorem completeField_sensor (h : s.rx.state = 4) : completeField v w s = completeSensor v w s := by
  rw [completeField, h]
  rfl

theorem completeField_crc (h : s.rx.state = 5) : completeField v w s = completeCrc v s := by
  rw [completeField, h]
  rfl

end

/-! ### CRC (R310) -/

/-- Settles O42: the comparison decides what comes before the frame's end. -/
theorem crcFieldEmitsExactlyOnAMatch : Obligations.CrcFieldEmitsExactlyOnAMatch := by
  intro s v hstate
  rw [completeField_crc v 16 hstate]
  refine ⟨fun heq => ?_, fun hne => ?_⟩
  · rw [completeCrc, if_pos heq]
    rfl
  · rw [completeCrc, if_neg hne]
    rfl

/-! ### CHANNEL (R304, R305) -/

/-- The two bits of CHAN_VENDOR that belong to a channel (10_state.md R50). -/
theorem vendorOf_eq (c : RxConfig) (channel : BitVec 4) :
    c.vendorOf channel = BitVec.ofNat 2 (c.chanVendor.toNat / 4 ^ channel.toNat % 4) := by
  apply BitVec.eq_of_toNat_eq
  rw [RxConfig.vendorOf, BitVec.extractLsb'_toNat, Nat.shiftRight_eq_div_pow, Nat.pow_mul, BitVec.toNat_ofNat,
    Nat.mod_mod]

/-- The state after the last plan entry is CRC, before it the next entry's kind (R306). -/
theorem nextState_eq (v : Vendor) (i : BitVec 4) :
    nextState v i = if i.toNat < v.planLen.toNat then (v.plan.getD i.toNat PlanEntry.reset).kind else 5 := rfl

theorem nextState_zero (v : Vendor) :
    nextState v 0 = if v.planLen = 0 then 5 else (v.plan.getD 0 PlanEntry.reset).kind := by
  have hlen : (0 : BitVec 4).toNat < v.planLen.toNat ↔ ¬ v.planLen = 0 := by
    rw [← BitVec.toNat_inj]
    exact Nat.pos_iff_ne_zero
  rw [nextState_eq, if_congr hlen rfl rfl, ite_not]
  rfl

/-- Settles O43: the range check, and the new message where it passes. -/
theorem channelOpensTheMessageOrEndsTheFrame : Obligations.ChannelOpensTheMessageOrEndsTheFrame := by
  intro s c hstate hc
  have hchannel : (BitVec.ofNat 32 c).setWidth 4 = BitVec.ofNat 4 c := BitVec.setWidth_ofNat_of_le (by decide) c
  have hnat : (BitVec.ofNat 4 c).toNat = c := Nat.mod_eq_of_lt hc
  have hcomplete := completeField_channel (BitVec.ofNat 32 c) 4 hstate
  simp only [completeChannel, hchannel, hnat] at hcomplete
  refine ⟨?opened, fun hout => ?ended⟩
  case opened =>
    intro hmin hmax vd v
    have hvendor : s.cfg.vendorOf (BitVec.ofNat 4 c) = vd := by rw [vendorOf_eq, hnat]
    have hdata : ((BitVec.ofNat 4 c).setWidth 32).toNat = c := by
      rw [BitVec.toNat_setWidth, hnat, Nat.mod_eq_of_lt (by omega)]
    rw [hcomplete, if_pos ⟨hmin, hmax⟩]
    simp only [channelValid, hvendor, push_eq_crcBits, hdata, nextState_zero]
    rfl
  case ended =>
    rw [hcomplete, if_neg (by omega)]
    rfl

/-! ### HEADER, TXID and SENSOR_STATE (R307 to R309) -/

/-- Settles O44: the value joins the message, its bits the CRC, and the plan moves on. -/
theorem planFieldsAccumulateAndAdvance : Obligations.PlanFieldsAccumulateAndAdvance := by
  intro s v w hv hidx hlen plan next advanced
  have hnext : s.rx.planIdx + 1 = BitVec.ofNat 4 next := by
    apply BitVec.eq_of_toNat_eq
    simp [next]
  have hnextNat : (BitVec.ofNat 4 next).toNat = next := Nat.mod_eq_of_lt (by omega)
  have hadvance : ∀ cur : CurMsg, cur.vendor = s.cur.vendor →
      advancePlan (pushField v w { s with cur := cur }) = advanced cur := by
    intro cur hcur
    simp only [advancePlan, pushField, push_eq_crcBits, hcur, hnext, nextState_eq, hnextNat]
    rfl
  refine ⟨fun hstate => ?header, fun hstate => ?txid, fun hstate => ?sensor⟩
  case header =>
    rw [completeField_header v w hstate, ← join_word_eq_ofNat _ hv]
    exact hadvance _ rfl
  case txid =>
    intro id
    have hid : s.cur.txid <<< w ||| v = id := join_word_eq_ofNat _ hv
    rw [completeField_txid v w hstate]
    simp only [completeTxid, hid]
    exact if_congr Iff.rfl rfl (hadvance _ rfl)
  case sensor =>
    rw [completeField_sensor v w hstate, ← join_eq_ofNat _ hv]
    exact hadvance _ rfl

end Sys2Proof.Proofs
end

section
/-! PROOFS. The issue of a command, the checks that turn it away (45_control.md R340 to R342), and the control
commands NOP, CONFIGURE and RX_ABORT (R345, R351, R352). -/

namespace Sys2Proof.Proofs

open Sys2Proof Sys2Proof.Machine Sys2Proof.Claims

/-! ### The issue of a command (R340) -/

theorem cmdWrite_accepted {w : Word} {i : Instr} (h : decode w = .ok i) (s : State) :
    cmdWrite w s = exec i (latchCommand w s) := by
  rw [cmdWrite, h]

/-- Settles O5: the write to CMD latches the word and runs its command. -/
theorem stepRunsTheDecodedCommand : Obligations.StepRunsTheDecodedCommand := by
  intro s w i ts ops hturn hbus haccepted
  rw [step_cmd_write hturn hbus, cmdWrite_accepted haccepted]
  rfl

/-! ### Commands turned away (R341, R342) -/

/-- The three commands with an operand range check it before anything else (30_encoding.md R135 case 3). -/
theorem exec_of_not_wellFormed {i : Instr} (h : i.WellFormed = false) (s : State) :
    exec i s = .next (cmdError codeBadOperand s) := by
  cases i with
  | oscNext sel =>
    have hsel : stageOfSel sel = none := stageOfSel_eq_none (by simpa [Instr.WellFormed] using h)
    simp only [exec, execOscNext, hsel]
  | filtCompute sel =>
    have hsel : stageOfSel sel = none := stageOfSel_eq_none (by simpa [Instr.WellFormed] using h)
    simp only [exec, execFiltCompute, hsel]
  | crcPush n acc =>
    have hcount : crcBitCount n = none := crcBitCount_eq_none (by simpa [Instr.WellFormed] using h)
    simp only [exec, execCrcPush, hcount]
  | _ => cases h

/-- A command that needs a pause is a component command: the mode checks come before its effect (R342). -/
theorem exec_eq_component {i : Instr} (hpause : NeedsPause i) (hwf : i.WellFormed = true) (s : State) :
    ∃ body, exec i s = component body s := by
  obtain ⟨hnop, hconfigure, hpipePush⟩ := hpause
  cases i with
  | nop => exact absurd rfl hnop
  | configure => exact absurd rfl hconfigure
  | pipePush => exact absurd rfl hpipePush
  | oscNext sel =>
    obtain ⟨sid, hsel, -⟩ := stageOfSel_of_lt (by simpa [Instr.WellFormed] using hwf)
    exact ⟨_, by simp only [exec, execOscNext, hsel]; rfl⟩
  | filtCompute sel =>
    obtain ⟨sid, hsel, -⟩ := stageOfSel_of_lt (by simpa [Instr.WellFormed] using hwf)
    cases sid <;> exact ⟨_, by simp only [exec, execFiltCompute, hsel]; rfl⟩
  | crcPush n acc =>
    have hcount : crcBitCount n = some n.toNat := crcBitCount_of_le (by simpa [Instr.WellFormed] using hwf)
    exact ⟨_, by simp only [exec, execCrcPush, hcount]; rfl⟩
  | _ =>
    simp only [exec, execRxPushLevel, execRxAbort, execTrkExtend, execTrkStartSymbol, execTrkCount, execTrkLockAvg,
      execTrkResetAvg, execManAdd, execManPopAll, execManSize, execManReset, execCrcFinalize, execCrcReset,
      execCrcSelect]
    exact ⟨_, rfl⟩

theorem execConfigure_busy {s : State} (h : s.ctrl.run = true) :
    exec .configure s = .next (cmdError codeBusy s) := if_pos h

theorem execPipePush_notRunning {s : State} (h : s.ctrl.run = false) :
    exec .pipePush s = .next (cmdError codeNotRunning s) := if_neg (by simp [h])

/-- OSC_NEXT checks TRANS_EN after the modes (40_filter.md R194). -/
theorem execOscNext_untranslated {s : State} {sel : BitVec 2} {sid : StageId} (hp : s.Paused)
    (hsel : sel.toNat = sid.num) (h : (s.stage sid).transEn = false) :
    exec (.oscNext sel) s = .next (cmdError codeBadOperand s) := by
  obtain ⟨hrun, hconfigured⟩ := hp
  simp only [exec, execOscNext, stageOfSel_of_num hsel, component_paused hrun hconfigured, h, Bool.false_eq_true,
    if_false]

/-- Settles O7: operands first, then RUN, then CONFIGURED, then TRANS_EN. -/
theorem checksTurnCommandsAwayInOrder : Obligations.ChecksTurnCommandsAwayInOrder := by
  refine ⟨fun i s hwf => exec_of_not_wellFormed hwf s, fun i s hpause hwf => ?component,
    fun s => execConfigure_busy, fun s => execPipePush_notRunning,
    fun s sel sid => execOscNext_untranslated⟩
  case component =>
    obtain ⟨body, hexec⟩ := exec_eq_component hpause hwf s
    rw [hexec]
    exact ⟨component_busy, component_unconfigured⟩

/-! ### The control commands -/

/-- Settles O8: NOP has no mode check, and its end is its only effect. -/
theorem nopEndsOkInEveryMode : Obligations.NopEndsOkInEveryMode := fun _ => rfl

/-- Settles O9: with RUN = 0 the checks decide between the two ends of CONFIGURE. -/
theorem configureInitialisesOrReportsTheFailure : Obligations.ConfigureInitialisesOrReportsTheFailure := by
  intro s hrun
  have hexec : exec .configure s = execConfigure s := rfl
  rw [hexec]
  rcases execConfigure_cases s with ⟨hbusy, -⟩ | ⟨code, index, -, hfails, e⟩ | ⟨-, hpasses, e⟩
  · simp [hrun] at hbusy
  · rw [hfails, e]
    refine ⟨(nomatch ·), fun _ _ h => ?_⟩
    cases h
    rfl
  · rw [hpasses, e]
    exact ⟨fun _ => rfl, nofun⟩

/-- Settles O12: after the mode checks, EndFrame and the reset of the decoder. -/
theorem rxAbortReturnsToSync : Obligations.RxAbortReturnsToSync := by
  intro s hp
  exact exec_paused hp rfl (by rfl)

end Sys2Proof.Proofs
end

section
/-! PROOFS. CONFIGURE's checks (45_control.md R346, R347): they run down one list of conditions and report the
first that holds (60_exceptions.md R370). -/

namespace Sys2Proof.Proofs

open Sys2Proof Sys2Proof.Machine Sys2Proof.Claims

/-! ### The first failing check of a list -/

section
variable {checks rest : List ((BitVec 8 × BitVec 8) × Prop)} {e code : BitVec 8 × BitVec 8} {p : Prop}

theorem not_firstFailing_nil : ¬ FirstFailing [] e := by
  rintro ⟨before, q, after, hsplit, -, -⟩
  simp at hsplit

theorem firstFailing_cons :
    FirstFailing ((code, p) :: rest) e ↔ (p ∧ e = code) ∨ (¬ p ∧ FirstFailing rest e) := by
  constructor
  · rintro ⟨before, q, after, hsplit, hq, hbefore⟩
    cases before with
    | nil =>
      cases hsplit
      exact .inl ⟨hq, rfl⟩
    | cons c before =>
      cases hsplit
      exact .inr ⟨hbefore (code, p) List.mem_cons_self,
        before, q, after, rfl, hq, fun c hc => hbefore c (List.mem_cons_of_mem _ hc)⟩
  · rintro (⟨hp, rfl⟩ | ⟨hp, before, q, after, rfl, hq, hbefore⟩)
    · exact ⟨[], p, rest, rfl, hp, fun c hc => absurd hc List.not_mem_nil⟩
    · refine ⟨(code, p) :: before, q, after, rfl, hq, fun c hc => ?_⟩
      rcases List.mem_cons.1 hc with rfl | hc
      · exact hp
      · exact hbefore c hc

theorem firstFailing_append {a b : List ((BitVec 8 × BitVec 8) × Prop)} :
    FirstFailing (a ++ b) e ↔ FirstFailing a e ∨ ((∀ q ∈ a, ¬ q.2) ∧ FirstFailing b e) := by
  induction a with
  | nil => simp [not_firstFailing_nil]
  | cons c a ih =>
    obtain ⟨code, p⟩ := c
    rw [List.cons_append, firstFailing_cons, firstFailing_cons, ih]
    simp only [List.forall_mem_cons]
    tauto

/-- The answer `o` names the first failing check of a list, and is `none` if they all pass. -/
structure ReportsFirst (checks : List ((BitVec 8 × BitVec 8) × Prop)) (o : Option (BitVec 8 × BitVec 8)) :
    Prop where
  none_iff : o = none ↔ ∀ q ∈ checks, ¬ q.2
  some_iff : ∀ e, o = some e ↔ FirstFailing checks e

theorem reportsFirst_nil : ReportsFirst [] none := ⟨by simp, by simp [not_firstFailing_nil]⟩

/-- One check in front of the others, which are only made where it passes. -/
theorem reportsFirst_cons {c : Prop} [Decidable c] {o : Option (BitVec 8 × BitVec 8)} (hc : c ↔ p)
    (hrest : ¬ c → ReportsFirst rest o) :
    ReportsFirst ((code, p) :: rest) (if c then some code else o) := by
  by_cases h : c
  · have hp : p := hc.1 h
    rw [if_pos h]
    exact ⟨by simp [hp], by simp [firstFailing_cons, hp, eq_comm]⟩
  · have hp : ¬ p := mt hc.2 h
    obtain ⟨hnone, hsome⟩ := hrest h
    rw [if_neg h]
    exact ⟨by simp [hp, hnone], by simp [firstFailing_cons, hp, hsome]⟩

/-- Two lists of checks, one after the other. -/
theorem ReportsFirst.append {a b : List ((BitVec 8 × BitVec 8) × Prop)} {o o' : Option (BitVec 8 × BitVec 8)}
    (ha : ReportsFirst a o) (hb : ReportsFirst b o') : ReportsFirst (a ++ b) (o.or o') where
  none_iff := by rw [Option.or_eq_none_iff, ha.none_iff, hb.none_iff, List.forall_mem_append]
  some_iff e := by rw [Option.or_eq_some_iff, ha.none_iff, ha.some_iff, hb.some_iff, firstFailing_append]

end

/-! ### The checks of a stage (R346) -/

theorem toNat_eq_zero_iff {n : Nat} (w : BitVec n) : w.toNat = 0 ↔ w = 0 := by
  rw [← BitVec.toNat_inj]
  simp

/-- The period is above a bound exactly if the search of R346 finds no sample count up to it. -/
theorem lt_oscPeriod_iff {r : StageRegs} (hfs : 0 < r.fs.toNat) (bound : Nat) :
    bound < oscPeriod r ↔ ∀ n, 1 ≤ n → n ≤ bound → n * r.ftrans.toInt.natAbs % r.fs.toNat ≠ 0 := by
  constructor
  · intro h n hpos hle hphase
    have hperiod := Nat.le_of_dvd hpos ((oscPeriod_dvd_iff hfs n).2 hphase)
    omega
  · intro h
    by_contra hle
    exact h _ (oscPeriod_pos hfs) (not_lt.1 hle) ((oscPeriod_dvd_iff hfs _).1 dvd_rfl)

theorem checkStage_reportsFirst (k : BitVec 8) (r : StageRegs) :
    ReportsFirst (stageChecks k r) ((checkStage Config.maxTaps Config.maxOsc r).map (·, k)) := by
  simp only [checkStage, apply_ite (Option.map _), Option.map_some, Option.map_none]
  refine reportsFirst_cons (toNat_eq_zero_iff _) fun hfs => ?_
  refine reportsFirst_cons (or_congr_left (toNat_eq_zero_iff _)) fun _ => ?_
  refine reportsFirst_cons (toNat_eq_zero_iff _) fun _ => ?_
  refine reportsFirst_cons Iff.rfl fun _ => ?_
  refine reportsFirst_cons (and_congr_right fun _ => ?_) fun _ => reportsFirst_nil
  exact lt_oscPeriod_iff (Nat.pos_of_ne_zero hfs) _

theorem stageLegal_iff (k : BitVec 8) (r : StageRegs) :
    (∀ q ∈ stageChecks k r, ¬ q.2) ↔ StageLegal r := by
  simp only [stageChecks, List.forall_mem_cons, StageLegal, ← toNat_eq_zero_iff]
  constructor
  · rintro ⟨hfs, htaps, hdecim, hrate, hperiod, -⟩
    refine ⟨hfs, by omega, by omega, hdecim, fun htrans => ⟨?_, ?_⟩⟩
    · by_contra hlow
      exact hrate ⟨htrans, by omega⟩
    · by_contra hnone
      exact hperiod ⟨htrans, fun n hpos hle hphase => hnone ⟨n, hpos, hle, hphase⟩⟩
  · rintro ⟨hfs, hodd, hmax, hdecim, hosc⟩
    refine ⟨hfs, by omega, hdecim, ?_, ?_, List.forall_mem_nil _⟩
    · rintro ⟨htrans, hlow⟩
      obtain ⟨hrate, -⟩ := hosc htrans
      omega
    · rintro ⟨htrans, hnone⟩
      obtain ⟨-, n, hpos, hle, hphase⟩ := hosc htrans
      exact hnone n hpos hle hphase

theorem checkStages_eq_or (maxTaps maxOsc : Nat) (s : State) :
    checkStages maxTaps maxOsc s =
      (((checkStage maxTaps maxOsc s.stage0).map (·, 0)).or
        ((checkStage maxTaps maxOsc s.stage1).map (·, 1))).or
        ((checkStage maxTaps maxOsc s.stage2).map (·, 2)) := by
  unfold checkStages
  cases checkStage maxTaps maxOsc s.stage0 with
  | some e => rfl
  | none =>
    cases checkStage maxTaps maxOsc s.stage1 with
    | some e => rfl
    | none => cases checkStage maxTaps maxOsc s.stage2 <;> rfl

/-! ### The checks of the receiver (R347) -/

/-- The plan's entries, one by one. -/
theorem entries_eq_map {v : Vendor} (h : v.planLen.toNat ≤ 8) :
    v.entries = (List.range v.planLen.toNat).map fun e => v.plan.getD e PlanEntry.reset := by
  apply List.ext_getElem
  · simp [Vendor.entries, h]
  · intro e h1 h2
    have he : e < 8 := by simp [Vendor.entries] at h1; omega
    simp [Vendor.entries, Vector.getD, he]

theorem totalWidth_eq_kindWidth {v : Vendor} (h : v.planLen.toNat ≤ 8) (kind : BitVec 3) :
    totalWidth kind v.entries = kindWidth v kind v.planLen.toNat := by
  have hsum (es : List PlanEntry) :
      totalWidth kind es = (es.map fun k => if k.kind = kind then k.width.toNat else 0).sum := by
    simp [totalWidth, List.sum_map_ite]
  rw [hsum, entries_eq_map h, List.map_map]
  rfl

theorem entryLegal_iff (k : PlanEntry) : entryLegal k = true ↔
    (k.kind = 2 ∨ k.kind = 3 ∨ k.kind = 4) ∧ 1 ≤ k.width.toNat ∧ k.width.toNat ≤ 32 ∧ (k.zchk = true → k.kind = 3) :=
  decide_eq_true_iff

theorem planLegal_iff (v : Vendor) : planLegal v = true ↔ PlanLegal v := by
  have hlegal (h : v.planLen.toNat ≤ 8) : v.entries.all entryLegal = true ↔
      ∀ e, e < v.planLen.toNat →
        let k := v.plan.getD e PlanEntry.reset
        (k.kind = 2 ∨ k.kind = 3 ∨ k.kind = 4) ∧ 1 ≤ k.width.toNat ∧ k.width.toNat ≤ 32 ∧
          (k.zchk = true → k.kind = 3) := by
    rw [entries_eq_map h]
    simp only [List.all_eq_true, List.forall_mem_map, List.mem_range, entryLegal_iff]
  simp only [planLegal, PlanLegal, decide_eq_true_eq, Bool.decide_and, Bool.and_eq_true]
  refine and_congr_right fun h => ?_
  rw [hlegal h, totalWidth_eq_kindWidth h, totalWidth_eq_kindWidth h, totalWidth_eq_kindWidth h]
  rfl

theorem checkReceiver_reportsFirst (c : RxConfig) : ReportsFirst (receiverChecks c) (checkReceiver c) := by
  have hplan (v : BitVec 2) : (!planLegal (c.vendor v)) = true ↔ ¬ PlanLegal (c.vendor v) := by
    rw [← planLegal_iff, Bool.not_eq_true', Bool.not_eq_true]
  unfold checkReceiver
  refine reportsFirst_cons Iff.rfl fun _ => ?_
  refine reportsFirst_cons (or_congr (toNat_eq_zero_iff _) (toNat_eq_zero_iff _)) fun _ => ?_
  refine reportsFirst_cons Iff.rfl fun _ => ?_
  refine reportsFirst_cons (hplan 0) fun _ => ?_
  refine reportsFirst_cons (hplan 1) fun _ => ?_
  refine reportsFirst_cons (hplan 2) fun _ => ?_
  exact reportsFirst_cons (hplan 3) fun _ => reportsFirst_nil

/-- The legality of the receiver's configuration in R347's words. -/
def ReceiverLegal (c : RxConfig) : Prop :=
  4 ≤ c.syncWidth.toNat ∧ c.syncWidth.toNat ≤ 32 ∧ c.estNum ≠ 0 ∧ c.estDen ≠ 0 ∧ c.chMin.toNat ≤ c.chMax.toNat ∧
    ∀ v, PlanLegal (c.vendor v)

theorem receiverLegal_iff (c : RxConfig) : (∀ q ∈ receiverChecks c, ¬ q.2) ↔ ReceiverLegal c := by
  have hvendors : (∀ v, PlanLegal (c.vendor v)) ↔ PlanLegal (c.vendor 0) ∧ PlanLegal (c.vendor 1) ∧
      PlanLegal (c.vendor 2) ∧ PlanLegal (c.vendor 3) := by
    refine ⟨fun h => ⟨h 0, h 1, h 2, h 3⟩, fun ⟨h0, h1, h2, h3⟩ v => ?_⟩
    have hv : v = 0 ∨ v = 1 ∨ v = 2 ∨ v = 3 := by
      revert v
      decide
    rcases hv with rfl | rfl | rfl | rfl <;> assumption
  simp only [receiverChecks, List.forall_mem_cons, List.not_mem_nil, false_implies, implies_true, ReceiverLegal,
    hvendors, not_not, not_or, not_lt, and_assoc, and_true, ne_eq]

/-! ### All the checks (R345) -/

theorem checkConfig_eq_or (maxTaps maxOsc : Nat) (s : State) :
    checkConfig maxTaps maxOsc s = (checkStages maxTaps maxOsc s).or (checkReceiver s.cfg) := by
  unfold checkConfig
  cases checkStages maxTaps maxOsc s <;> rfl

theorem checkConfig_reportsFirst (s : State) :
    ReportsFirst (stageChecks 0 s.stage0 ++ stageChecks 1 s.stage1 ++ stageChecks 2 s.stage2 ++ receiverChecks s.cfg)
      (checkConfig Config.maxTaps Config.maxOsc s) := by
  rw [checkConfig_eq_or, checkStages_eq_or]
  exact (((checkStage_reportsFirst 0 _).append (checkStage_reportsFirst 1 _)).append
    (checkStage_reportsFirst 2 _)).append (checkReceiver_reportsFirst _)

theorem checkConfig_eq_none_iff (s : State) :
    checkConfig Config.maxTaps Config.maxOsc s = none ↔
      (∀ sid, StageLegal (s.stage sid)) ∧ ReceiverLegal s.cfg := by
  have hstages : (∀ sid, StageLegal (s.stage sid)) ↔
      (StageLegal s.stage0 ∧ StageLegal s.stage1) ∧ StageLegal s.stage2 :=
    ⟨fun h => ⟨⟨h .s0, h .s1⟩, h .s2⟩, fun ⟨⟨h0, h1⟩, h2⟩ => fun | .s0 => h0 | .s1 => h1 | .s2 => h2⟩
  rw [(checkConfig_reportsFirst s).none_iff, hstages]
  simp only [List.forall_mem_append, stageLegal_iff, receiverLegal_iff]

/-- Settles O10: the checks are the list of R346 and R347, so they pass where none of it fails and report its first
failure otherwise. -/
theorem configureAcceptsLegalAndNamesTheFirstFailure : Obligations.ConfigureAcceptsLegalAndNamesTheFirstFailure :=
  fun s => ⟨checkConfig_eq_none_iff s, (checkConfig_reportsFirst s).some_iff⟩

end Sys2Proof.Proofs
end

section
/-! PROOFS. The ranges of a configured block (45_control.md R349), part by part: each operation of a filter stage, the
tracker and the receiver keeps those of its part, and the receiver never comes to the fatal action
(60_exceptions.md R376). -/

namespace Sys2Proof.Proofs

open Sys2Proof Sys2Proof.Machine Sys2Proof.Claims

/-! ### The ranges of a stage (10_state.md R42, R45) -/

/-- A stage of a legal configuration, its run-time registers in range of it, with `n` entries of its shift register
written. -/
structure StageInRange (r : StageRegs) (n : Nat) : Prop where
  legal : StageLegal r
  consistent : StageConsistent r
  filled : r.ntaps.toNat ≤ n

section
variable {r : StageRegs} {n : Nat}

theorem ntaps_pos_of_legal (h : StageLegal r) : 1 ≤ r.ntaps.toNat := by
  obtain ⟨-, hodd, -⟩ := h
  omega

/-- The period of a legal stage with translation is an entry count of its table, so OSC_N holds it. -/
theorem oscPeriod_toNat_pos (h : StageLegal r) (htrans : r.transEn = true) :
    0 < (BitVec.ofNat 32 (oscPeriod r)).toNat := by
  obtain ⟨hfs, -, -, -, hosc⟩ := h
  obtain ⟨-, n, hpos, hle, hphase⟩ := hosc htrans
  have hfs_pos := Nat.pos_of_ne_zero hfs
  have hperiod_pos := oscPeriod_pos hfs_pos
  have hperiod_le := Nat.le_of_dvd hpos ((oscPeriod_dvd_iff hfs_pos n).2 hphase)
  have hmax := Config.maxOsc_le
  rw [BitVec.toNat_ofNat, Nat.mod_eq_of_lt (by omega)]
  exact hperiod_pos

/-- CONFIGURE puts a legal stage in range (45_control.md R345, R348). -/
theorem initStage_inRange {α : Type} (zero : α) (sh : List α) (h : StageLegal r) :
    StageInRange (initStage n r) (initShift zero r sh).length := by
  have hlegal := h
  obtain ⟨-, -, -, hdecim, -⟩ := hlegal
  refine ⟨h, ⟨rfl, ?oscIdx, Nat.pos_of_ne_zero hdecim, rfl⟩, by simp [initShift]⟩
  case oscIdx =>
    by_cases htrans : r.transEn = true
    · simpa [initStage, htrans] using oscPeriod_toNat_pos h htrans
    · simp [initStage, htrans]

theorem StageInRange.oscAdvance (h : StageInRange r n) (htrans : r.transEn = true) :
    StageInRange (oscAdvance r) n where
  legal := h.legal
  consistent :=
    { oscN := h.consistent.oscN
      oscIdx := by
        have hidx := h.consistent.oscIdx
        rw [if_pos htrans] at hidx
        have hne : r.oscN ≠ 0 := fun hzero => by simp [hzero] at hidx
        have hnext : (nextPhase r).toNat < r.oscN.toNat := by
          rw [nextPhase_toNat hne]
          exact Nat.mod_lt _ (by omega)
        exact (if_pos htrans).mpr hnext
      dcnt := h.consistent.dcnt
      live := h.consistent.live }
  filled := h.filled

theorem StageInRange.withDcnt (h : StageInRange r n) {d : Word} (hd : d.toNat < r.decim.toNat) :
    StageInRange { r with dcnt := d } n :=
  ⟨h.legal, ⟨h.consistent.oscN, h.consistent.oscIdx, hd, h.consistent.live⟩, h.filled⟩

theorem translate_inRange {α : Type} {ops : SampleOps α} {mem : Memory} {sid : StageId} {t : StageRegs} {x y : α}
    (h : StageInRange r n) (htranslate : translate ops mem sid r x = .ok (y, t)) : StageInRange t n := by
  rcases translate_cases ops mem sid r x with ⟨-, e⟩ | ⟨f, -, -, e⟩ | ⟨w, htrans, -, e⟩ <;>
    rw [e] at htranslate <;> cases htranslate
  · exact h
  · exact h.oscAdvance htrans

/-- The decimation counter comes round before it reaches DECIM, and the shift drops no entry that takes part
(40_filter.md R181). -/
theorem filterCompute_inRange {α : Type} {ops : SampleOps α} {draw : Nat → α} {mem : Memory} {sid : StageId}
    {sh : List α} {x : α} {res : FilterResult α} (h : StageInRange r sh.length)
    (hcompute : filterCompute ops draw mem sid r sh x = .ok res) : StageInRange res.regs res.shift.length := by
  rw [filterCompute_length hcompute ⟨ntaps_pos_of_legal h.legal, h.filled⟩]
  obtain ⟨y, t, htranslate, -, hcount⟩ := filterCompute_ok hcompute
  have ht := translate_inRange h htranslate
  have hdcnt := ht.consistent.dcnt
  rcases hcount with ⟨-, hregs, -⟩ | ⟨hne, hregs, -⟩ <;> rw [hregs]
  · exact ht.withDcnt (d := 0) (Nat.zero_lt_of_lt hdcnt)
  · refine ht.withDcnt ?_
    bv_omega

end

/-! ### The ranges of the tracker (10_state.md R54, R61) -/

/-- A tracker whose window is that of the configuration, with nothing in the slots beyond it. -/
structure TrackerInRange (c : RxConfig) (t : Tracker) : Prop where
  window : t.width + 1 = c.syncWidth.toNat
  cur : t.cur.toNat < t.width
  avgDen : t.avgDen ≠ 0
  slots : ∀ i, t.width ≤ i → t.slot i = 0

section
variable {c : RxConfig} {t : Tracker}

theorem TrackerInRange.extend (h : TrackerInRange c t) : TrackerInRange c t.extend where
  window := h.window
  cur := h.cur
  avgDen := h.avgDen
  slots i hi := by
    have hcur := h.cur
    rw [Tracker.extend_width] at hi
    rw [Tracker.extend_slot, if_neg (by omega), h.slots i hi]

theorem TrackerInRange.startSymbol (h : TrackerInRange c t) : TrackerInRange c t.startSymbol where
  window := h.window
  cur := t.startSymbol_cur_lt (Nat.zero_lt_of_lt h.cur)
  avgDen := h.avgDen
  slots i hi := by
    have hnext := Nat.mod_lt (t.cur.toNat + 1) (Nat.zero_lt_of_lt h.cur)
    rw [Tracker.startSymbol_width] at hi
    rw [Tracker.startSymbol_slot, if_neg (by omega), h.slots i hi]

/-- W is at least 3, so the lock average has a divisor (41_tracker.md R228, 45_control.md R347). -/
theorem TrackerInRange.lockAverage (h : TrackerInRange c t) (hlegal : ReceiverLegal c) :
    TrackerInRange c t.lockAverage where
  window := h.window
  cur := h.cur
  avgDen hzero := by
    obtain ⟨hmin, -⟩ := hlegal
    have hwindow := h.window
    have hden := lockAverage_avgDen_toNat (t := t) (by omega)
    rw [hzero] at hden
    have : t.width - 2 = 0 := hden.symm
    omega
  slots := h.slots

theorem TrackerInRange.resetAverage (h : TrackerInRange c t) (hlegal : ReceiverLegal c) :
    TrackerInRange c (t.resetAverage c) := by
  obtain ⟨-, -, -, hden, -⟩ := hlegal
  exact ⟨h.window, h.cur, hden, h.slots⟩

theorem slot_replicate_zero (i : Nat) : (Vector.replicate 31 (0 : BitVec 16)).getD i 0 = 0 := by
  by_cases hi : i < 31 <;> simp [Vector.getD, hi]

theorem initTracker_inRange (hlegal : ReceiverLegal c) : TrackerInRange c (initTracker c) := by
  obtain ⟨hmin, hmax, -, hden, -⟩ := hlegal
  have hwidth : (initTracker c).width = c.syncWidth.toNat - 1 := by
    simp only [initTracker, Tracker.width]
    bv_omega
  have hcur : (initTracker c).cur.toNat = 0 := rfl
  exact ⟨by omega, by omega, hden, fun i _ => slot_replicate_zero i⟩

end

/-! ### The place in a frame (10_state.md R52, 44_receiver.md R306) -/

/-- The receiver is between frames with nothing in progress, or in a frame at an entry of the vendor's plan or at its
CRC. -/
structure PlaceInRange (c : RxConfig) (rx : RxRegs) (cur : CurMsg) : Prop where
  state : rx.state.toNat ≤ 5
  idle : rx.state.toNat ≤ 1 → rx.msgActive = false ∧ rx.planIdx = 0 ∧ cur = CurMsg.reset
  active : 2 ≤ rx.state.toNat → rx.msgActive = true
  planKind : 2 ≤ rx.state.toNat → rx.state.toNat ≤ 4 →
    rx.planIdx.toNat < (c.vendor cur.vendor).planLen.toNat ∧
      ((c.vendor cur.vendor).entry rx.planIdx).kind = rx.state

section
variable {c : RxConfig} {rx : RxRegs} {cur : CurMsg}

/-- Out of a frame there is no message and no plan entry. -/
theorem placeInRange_idle (hstate : rx.state.toNat ≤ 1) (hactive : rx.msgActive = false) (hidx : rx.planIdx = 0)
    (hcur : cur = CurMsg.reset) : PlaceInRange c rx cur :=
  ⟨by omega, fun _ => ⟨hactive, hidx, hcur⟩, fun _ => by omega, fun _ _ => by omega⟩

theorem kind_of_planLegal {v : Vendor} (h : PlanLegal v) {i : BitVec 4} (hi : i.toNat < v.planLen.toNat) :
    2 ≤ (v.entry i).kind.toNat ∧ (v.entry i).kind.toNat ≤ 4 := by
  obtain ⟨-, hentries, -⟩ := h
  obtain ⟨hkind, -⟩ := hentries i.toNat hi
  have hentry : (v.entry i).kind = 2 ∨ (v.entry i).kind = 3 ∨ (v.entry i).kind = 4 := hkind
  rcases hentry with h | h | h <;> rw [h] <;> decide

/-- NextState leads to the plan entry at PLAN_IDX, or to CRC after the last one. -/
theorem placeInRange_nextState (hlegal : ReceiverLegal c) (hactive : rx.msgActive = true)
    (hstate : rx.state = nextState (c.vendor cur.vendor) rx.planIdx) : PlaceInRange c rx cur := by
  obtain ⟨-, -, -, -, -, hplans⟩ := hlegal
  by_cases hidx : rx.planIdx.toNat < (c.vendor cur.vendor).planLen.toNat
  · have hkind : rx.state = ((c.vendor cur.vendor).entry rx.planIdx).kind := hstate.trans (if_pos hidx)
    obtain ⟨hlow, hhigh⟩ := kind_of_planLegal (hplans cur.vendor) hidx
    rw [← hkind] at hlow hhigh
    exact ⟨by omega, fun _ => by omega, fun _ => hactive, fun _ _ => ⟨hidx, hkind.symm⟩⟩
  · have hcrc : rx.state.toNat = 5 := by rw [hstate, nextState, if_neg hidx]; rfl
    exact ⟨by omega, fun _ => by omega, fun _ => hactive, fun _ _ => by omega⟩

/-- In a frame the message's fields are free, but for the vendor, whose plan the receiver follows. -/
theorem PlaceInRange.withMessage (h : PlaceInRange c rx cur) (hstate : 2 ≤ rx.state.toNat) {cur' : CurMsg}
    (hvendor : cur'.vendor = cur.vendor) : PlaceInRange c rx cur' :=
  ⟨h.state, fun _ => by omega, h.active, by rw [hvendor]; exact h.planKind⟩

end

/-! ### The ranges of the receiver (10_state.md R52 to R57) -/

/-- The receiver of a legal configuration, in range of it, and not in the fatal state (60_exceptions.md R376). -/
structure ReceiverInRange (s : State) : Prop where
  legal : ReceiverLegal s.cfg
  fatal : s.ctrl.fatal = false
  manCnt : s.man.cnt.toNat ≤ 32
  devid : s.msg.devidPresent = false ∧ s.msg.devid = 0
  tracker : TrackerInRange s.cfg s.trk
  syncShift : s.rx.syncShift.toNat ≤ mask s.cfg.syncWidth.toNat
  place : PlaceInRange s.cfg s.rx s.cur

/-- Everything the receiver's ranges are about. -/
def receiverState (s : State) : Bool × RxConfig × BitVec 6 × OutMsg × Tracker × RxRegs × CurMsg :=
  (s.ctrl.fatal, s.cfg, s.man.cnt, s.msg, s.trk, s.rx, s.cur)

section
variable {s t : State}

theorem ReceiverInRange.congr (h : ReceiverInRange s) (heq : receiverState t = receiverState s) :
    ReceiverInRange t := by
  simp only [receiverState, Prod.mk.injEq] at heq
  obtain ⟨hfatal, hcfg, hcnt, hmsg, htrk, hrx, hcur⟩ := heq
  constructor
  · rw [hcfg]; exact h.legal
  · rw [hfatal]; exact h.fatal
  · rw [hcnt]; exact h.manCnt
  · rw [hmsg]; exact h.devid
  · rw [hcfg, htrk]; exact h.tracker
  · rw [hcfg, hrx]; exact h.syncShift
  · rw [hcfg, hrx, hcur]; exact h.place

theorem ReceiverInRange.withTracker (h : ReceiverInRange s) {k : Tracker} (hk : TrackerInRange s.cfg k) :
    ReceiverInRange { s with trk := k } :=
  ⟨h.legal, h.fatal, h.manCnt, h.devid, hk, h.syncShift, h.place⟩

theorem ReceiverInRange.withDecoder (h : ReceiverInRange s) {m : Manchester} (hm : m.cnt.toNat ≤ 32) :
    ReceiverInRange { s with man := m } :=
  ⟨h.legal, h.fatal, hm, h.devid, h.tracker, h.syncShift, h.place⟩

theorem ReceiverInRange.withMessage (h : ReceiverInRange s) (hstate : 2 ≤ s.rx.state.toNat) {cur : CurMsg}
    (hvendor : cur.vendor = s.cur.vendor) : ReceiverInRange { s with cur := cur } :=
  ⟨h.legal, h.fatal, h.manCnt, h.devid, h.tracker, h.syncShift, h.place.withMessage hstate hvendor⟩

/-- Whatever ends a frame, its end leaves the receiver in SYNC with the estimate (R311). -/
theorem ReceiverInRange.endFrame (h : ReceiverInRange s) : ReceiverInRange (endFrame s) where
  legal := h.legal
  fatal := h.fatal
  manCnt := h.manCnt
  devid := h.devid
  tracker := h.tracker.resetAverage h.legal
  syncShift := Nat.zero_le _
  place := placeInRange_idle (Nat.zero_le _) rfl rfl rfl

theorem ReceiverInRange.emitMessage (h : ReceiverInRange s) : ReceiverInRange (emitMessage s) :=
  ⟨h.legal, h.fatal, h.manCnt, ⟨rfl, rfl⟩, h.tracker, h.syncShift, h.place⟩

/-- The end of a HEADER, TXID or SENSOR_STATE field moves on along the plan (R306). -/
theorem ReceiverInRange.advancePlan (h : ReceiverInRange s) (hstate : 2 ≤ s.rx.state.toNat) :
    ReceiverInRange (advancePlan s) :=
  ⟨h.legal, h.fatal, h.manCnt, h.devid, h.tracker, h.syncShift,
    placeInRange_nextState h.legal (h.place.active hstate) rfl⟩

/-- The end of a field of the plan, its value joined to the message. -/
theorem ReceiverInRange.nextField (h : ReceiverInRange s) (hstate : 2 ≤ s.rx.state.toNat) {cur : CurMsg}
    (hvendor : cur.vendor = s.cur.vendor) (v : Word) (w : Nat) :
    ReceiverInRange (Machine.advancePlan (pushField v w { s with cur := cur })) :=
  ((h.withMessage hstate hvendor).congr (t := pushField v w { s with cur := cur }) rfl).advancePlan hstate

theorem completeChannel_inRange (h : ReceiverInRange s) (v : Word) : ReceiverInRange (completeChannel v s) := by
  unfold completeChannel
  simp only
  split
  · exact ⟨h.legal, h.fatal, h.manCnt, h.devid, h.tracker, h.syncShift, placeInRange_nextState h.legal rfl rfl⟩
  · exact (h.congr (t := raise .chanErr (count .chanErr s)) rfl).endFrame

theorem completeTxid_inRange (h : ReceiverInRange s) (hstate : 2 ≤ s.rx.state.toNat) (v : Word) (w : Nat) :
    ReceiverInRange (completeTxid v w s) := by
  have hjoined := h.withMessage hstate (cur := { s.cur with txid := s.cur.txid <<< w ||| v }) rfl
  unfold completeTxid
  simp only
  split
  · exact (hjoined.congr (t := raise .zeroTxid (count .zeroTxid _)) rfl).endFrame
  · exact h.nextField hstate (by rfl) v w

theorem completeCrc_inRange (h : ReceiverInRange s) (v : Word) : ReceiverInRange (completeCrc v s) := by
  unfold completeCrc
  split
  · exact h.emitMessage.endFrame
  · exact (h.congr (t := crcMismatch s) rfl).endFrame

theorem completeField_inRange (h : ReceiverInRange s) (v : Word) (w : Nat) : ReceiverInRange (completeField v w s) := by
  have hstate {x : BitVec 3} (hx : s.rx.state = x) (h2 : 2 ≤ x.toNat) : 2 ≤ s.rx.state.toNat := hx ▸ h2
  rcases completeField_cases v w s with ⟨-, e⟩ | ⟨hx, e⟩ | ⟨hx, e⟩ | ⟨hx, e⟩ | ⟨-, -, -, -, e⟩ <;> rw [e]
  · exact completeChannel_inRange h v
  · exact h.nextField (hstate hx (by decide)) (by rfl) v w
  · exact completeTxid_inRange h (hstate hx (by decide)) v w
  · exact h.nextField (hstate hx (by decide)) (by rfl) v w
  · exact completeCrc_inRange h v

theorem fieldArm_inRange (h : ReceiverInRange s) (b : Level) : ReceiverInRange (fieldArm b s) := by
  have hfed : ReceiverInRange { s with man := (s.man.add b).1 } := h.withDecoder (s.man.add_cnt_le b h.manCnt)
  rcases fieldArm_cases b s with ⟨-, e⟩ | ⟨-, -, e⟩ | ⟨-, -, e⟩ <;> rw [e]
  · exact hfed.congr rfl
  · exact hfed
  · exact completeField_inRange (h.withDecoder (Nat.zero_le _)) _ _

/-- SYNC_SHIFT is cut to SYNC_WIDTH bits, and the first frame position is idle like SYNC (R301). -/
theorem syncArm_inRange (h : ReceiverInRange s) (hstate : s.rx.state = stSync) (b : Level) :
    ReceiverInRange (syncArm b s) := by
  have hcut (x : Word) : (x &&& BitVec.ofNat 32 (mask s.cfg.syncWidth.toNat)).toNat ≤ mask s.cfg.syncWidth.toNat := by
    rw [BitVec.toNat_and, BitVec.toNat_ofNat]
    exact Nat.and_le_right.trans (Nat.mod_le _ _)
  obtain ⟨hactive, hidx, hcur⟩ := h.place.idle (by rw [hstate]; decide)
  rcases syncArm_cases b s with e | e <;> rw [e]
  · exact ⟨h.legal, h.fatal, h.manCnt, h.devid, h.tracker, hcut _,
      placeInRange_idle (by rw [hstate]; decide) hactive hidx hcur⟩
  · exact ⟨h.legal, h.fatal, h.manCnt, h.devid, h.tracker.lockAverage h.legal, hcut _,
      placeInRange_idle (Nat.le_refl 1) hactive hidx hcur⟩

/-- The fatal action needs a state that a receiver in range is not in (60_exceptions.md R376). -/
theorem smStep_inRange (b : Level) (s : State) (h : ReceiverInRange s) : ReceiverInRange (smStep b s) := by
  rcases smStep_cases b s with ⟨hstate, e⟩ | ⟨-, -, e⟩ | ⟨hunreachable, -⟩
  · rw [e]
    exact syncArm_inRange h hstate b
  · rw [e]
    exact fieldArm_inRange h b
  · have hstate := h.place.state
    omega

theorem rxPush_receiverInRange (h : ReceiverInRange s) (l : Level) : ReceiverInRange (rxPush l s) := by
  have hcounted : ReceiverInRange (count .level s) := h.congr rfl
  rcases rxPush_cases l s with ⟨-, e⟩ | ⟨-, e⟩ <;> rw [e]
  · exact hcounted.withTracker h.tracker.extend
  · have hreplayed := replay_induction s.rx.prevLevel (smStep_inRange s.rx.prevLevel) s.trk.curCount _ hcounted
    have hplace := hreplayed.place
    exact ⟨hreplayed.legal, hreplayed.fatal, hreplayed.manCnt, hreplayed.devid, hreplayed.tracker.startSymbol,
      hreplayed.syncShift, ⟨hplace.state, hplace.idle, hplace.active, hplace.planKind⟩⟩

end

end Sys2Proof.Proofs
end

section
/-! PROOFS. The consistency that every step keeps (45_control.md R349, 60_exceptions.md R377): the ranges of the parts
put together over the datapath, the commands, the resets and the bus accesses. -/

namespace Sys2Proof.Proofs

open Sys2Proof Sys2Proof.Machine Sys2Proof.Claims

/-! ### A configured block in range (45_control.md R349) -/

/-- What CONFIGURED = 1 stands for: a legal configuration and a run-time state in range of it. -/
structure InRange (s : State) : Prop where
  mem : s.mem.wf
  receiver : ReceiverInRange s
  stages : ∀ sid, StageInRange (s.stage sid) (shiftLength s sid)

/-- `t` differs from `s` at most in what no range is about. -/
def SameRanges (s t : State) : Prop :=
  t = { s with
    ctrl := { t.ctrl with fatal := s.ctrl.fatal }, evt := t.evt, cmd := t.cmd, crc := t.crc, counters := t.counters
    busOut := t.busOut, msgOut := t.msgOut, bus := t.bus, samples := t.samples, turns := t.turns, epoch := t.epoch
    configCount := t.configCount }

section
variable {s t : State}

theorem inRange_of_consistent (h : s.Consistent) (hconf : s.ctrl.configured = true) : InRange s := by
  have hc := h.configured hconf
  obtain ⟨hstages, hreceiver⟩ := (checkConfig_eq_none_iff s).1 hc.checked
  refine ⟨h.mem, ?receiver, fun sid => ⟨hstages sid, hc.stages sid, ?filled⟩⟩
  case receiver =>
    exact ⟨hreceiver, h.fatal, h.manCnt, h.devid, ⟨hc.window, hc.cur, hc.avgDen, h.slots⟩, hc.syncShift,
      ⟨h.state, h.idle, h.active, hc.planKind⟩⟩
  case filled =>
    cases sid with
    | s0 => exact hc.shift0
    | s1 => exact hc.shift1
    | s2 => exact hc.shift2

/-- A configured block in range is consistent, whatever RUN is. -/
theorem consistent_of_inRange (h : InRange s) (hconf : s.ctrl.configured = true) : s.Consistent where
  run _ := hconf
  fatal := h.receiver.fatal
  state := h.receiver.place.state
  manCnt := h.receiver.manCnt
  idle := h.receiver.place.idle
  active := h.receiver.place.active
  devid := h.receiver.devid
  slots := h.receiver.tracker.slots
  live sid := (h.stages sid).consistent.live.le
  mem := h.mem
  configured _ :=
    { checked := (checkConfig_eq_none_iff s).2 ⟨fun sid => (h.stages sid).legal, h.receiver.legal⟩
      stages := fun sid => (h.stages sid).consistent
      shift0 := (h.stages .s0).filled
      shift1 := (h.stages .s1).filled
      shift2 := (h.stages .s2).filled
      window := h.receiver.tracker.window
      cur := h.receiver.tracker.cur
      avgDen := h.receiver.tracker.avgDen
      syncShift := h.receiver.syncShift
      planKind := h.receiver.place.planKind }

theorem InRange.of_same (h : InRange s) (hsame : SameRanges s t) : InRange t := by
  unfold SameRanges at hsame
  rw [hsame]
  exact ⟨h.mem, h.receiver.congr rfl, h.stages⟩

theorem InRange.of_receiver (h : InRange s) (hframe : ReceiverFrame s t) (hreceiver : ReceiverInRange t) :
    InRange t := by
  refine ⟨?mem, hreceiver, ?stages⟩ <;> unfold ReceiverFrame at hframe <;> rw [hframe]
  · exact h.mem
  · exact h.stages

theorem InRange.setStage (h : InRange s) {sid : StageId} {r : StageRegs} (hr : StageInRange r (shiftLength s sid)) :
    InRange (s.setStage sid r) := by
  have hlength (k : StageId) : shiftLength (s.setStage sid r) k = shiftLength s k := by
    cases k <;> simp [shiftLength]
  refine ⟨by simpa using h.mem, h.receiver.congr (by simp [receiverState]), fun k => ?_⟩
  rw [hlength]
  rcases eq_or_ne k sid with rfl | hk
  · rwa [stage_setStage_same]
  · rw [stage_setStage_other s sid r k hk]
    exact h.stages k

/-! ### The datapath keeps the ranges (40_filter.md R181, R190) -/

theorem rxPush_inRange (h : InRange s) (l : Level) : InRange (rxPush l s) :=
  h.of_receiver (rxPush_frame l s) (rxPush_receiverInRange h.receiver l)

theorem filterStage0_inRange (h : InRange s) {x : C32} {out : Option C32} (e : filterStage0 x s = .ok (t, out)) :
    InRange t := by
  obtain ⟨r, hr, -, rfl⟩ := filterStage0_ok e
  exact ⟨h.mem, h.receiver.congr rfl,
    fun | .s0 => filterCompute_inRange (h.stages .s0) hr | .s1 => h.stages .s1 | .s2 => h.stages .s2⟩

theorem filterStage1_inRange (h : InRange s) {x : F32} {out : Option F32} (e : filterStage1 x s = .ok (t, out)) :
    InRange t := by
  obtain ⟨r, hr, -, rfl⟩ := filterStage1_ok e
  exact ⟨h.mem, h.receiver.congr rfl,
    fun | .s0 => h.stages .s0 | .s1 => filterCompute_inRange (h.stages .s1) hr | .s2 => h.stages .s2⟩

theorem filterStage2_inRange (h : InRange s) {x : F32} {out : Option F32} (e : filterStage2 x s = .ok (t, out)) :
    InRange t := by
  obtain ⟨r, hr, -, rfl⟩ := filterStage2_ok e
  exact ⟨h.mem, h.receiver.congr rfl,
    fun | .s0 => h.stages .s0 | .s1 => h.stages .s1 | .s2 => filterCompute_inRange (h.stages .s2) hr⟩

theorem pipelineStep_inRange (h : InRange s) {x : C32} (e : pipelineStep x s = .ok t) : InRange t := by
  have hcounted : InRange (count .sample s) := h.of_same rfl
  rcases pipelineStep_ok e with e0 | ⟨s1, o0, e0, e⟩
  · exact filterStage0_inRange hcounted e0
  have h1 := filterStage0_inRange hcounted e0
  rcases e with e1 | ⟨s2, o1, e1, e⟩
  · exact filterStage1_inRange h1 e1
  have h2 := filterStage1_inRange h1 e1
  rcases e with e2 | ⟨s3, o2, e2, rfl⟩
  · exact filterStage2_inRange h2 e2
  · exact rxPush_inRange (filterStage2_inRange h2 e2) _

/-- The pipeline runs in a configured block alone, and leaves it configured (10_state.md R34). -/
theorem pipelineStep_consistent (hs : s.Consistent) (hrun : s.ctrl.run = true) {x : C32}
    (e : pipelineStep x s = .ok t) : t.Consistent := by
  have hconf := hs.run hrun
  exact consistent_of_inRange (pipelineStep_inRange (inRange_of_consistent hs hconf) e)
    ((pipelineStep_frame e).configured.trans hconf)

/-! ### Commands -/

/-- An outcome that goes on does so in a consistent state. -/
def GoesOnConsistent (o : Host.Outcome State Fault Refusal) : Prop := ∀ t, o = .next t → t.Consistent

theorem goesOnConsistent_next (h : t.Consistent) : GoesOnConsistent (.next t) := by
  rintro _ ⟨⟩
  exact h

theorem goesOnConsistent_fault (f : Fault) : GoesOnConsistent (.fault f) := by
  intro t h
  cases h

/-- A change of nothing that a range is about, of RUN within R34 and of CONFIGURED to 0. -/
theorem consistent_of_same (h : s.Consistent) (hsame : SameRanges s t)
    (hrun : t.ctrl.run = true → t.ctrl.configured = true)
    (hconf : t.ctrl.configured = true → s.ctrl.configured = true) : t.Consistent := by
  have hconfigured (hc : t.ctrl.configured = true) : t.Consistent :=
    consistent_of_inRange ((inRange_of_consistent h (hconf hc)).of_same hsame) hc
  unfold SameRanges at hsame
  rw [hsame] at hrun hconfigured ⊢
  exact ⟨hrun, h.fatal, h.state, h.manCnt, h.idle, h.active, h.devid, h.slots, h.live, h.mem,
    fun hc => (hconfigured hc).configured hc⟩

/-- A change that leaves both modes alone as well. -/
theorem consistent_of_quiet (h : s.Consistent) (hsame : SameRanges s t) (hrun : t.ctrl.run = s.ctrl.run)
    (hconf : t.ctrl.configured = s.ctrl.configured) : t.Consistent :=
  consistent_of_same h hsame (by rw [hrun, hconf]; exact h.run) (by rw [hconf]; exact id)

theorem cmdError_consistent (h : s.Consistent) (code : BitVec 4) : GoesOnConsistent (.next (cmdError code s)) :=
  goesOnConsistent_next (consistent_of_quiet h rfl rfl rfl)

theorem component_consistent {body : State → Host.Outcome State Fault Refusal} (h : s.Consistent)
    (hbody : s.ctrl.configured = true → InRange s → GoesOnConsistent (body s)) :
    GoesOnConsistent (component body s) := by
  rcases component_cases body s with ⟨-, e⟩ | ⟨-, -, e⟩ | ⟨-, hconf, e⟩ <;> rw [e]
  · exact cmdError_consistent h _
  · exact cmdError_consistent h _
  · exact hbody hconf (inRange_of_consistent h hconf)

/-- A component command that always completes. -/
theorem component_completes {effect : State → State} (h : s.Consistent)
    (hmode : (effect s).ctrl.configured = s.ctrl.configured) (heffect : InRange s → InRange (effect s)) :
    GoesOnConsistent (component (fun s => .next (effect s)) s) :=
  component_consistent h fun hconf hin =>
    goesOnConsistent_next (consistent_of_inRange (heffect hin) (hmode.trans hconf))

theorem InRange.finish (h : InRange s) : InRange (finish s) := h.of_same rfl

theorem InRange.withTracker (h : InRange s) {k : Tracker} (hk : TrackerInRange s.cfg k) :
    InRange { s with trk := k } := h.of_receiver rfl (h.receiver.withTracker hk)

theorem InRange.withDecoder (h : InRange s) {m : Manchester} (hm : m.cnt.toNat ≤ 32) :
    InRange { s with man := m } := h.of_receiver rfl (h.receiver.withDecoder hm)

/-- CONFIGURE starts the run-time state in range of the configuration it has checked (R345, R348). -/
theorem configureDone_inRange (h : s.Consistent) (hchecked : checkConfig Config.maxTaps Config.maxOsc s = none) :
    InRange (configureDone s) := by
  obtain ⟨hstages, hreceiver⟩ := (checkConfig_eq_none_iff s).1 hchecked
  refine ⟨h.mem, ?receiver, ?stages⟩
  case receiver =>
    exact ⟨hreceiver, rfl, Nat.zero_le _, ⟨rfl, rfl⟩, initTracker_inRange hreceiver, Nat.zero_le _,
      placeInRange_idle (Nat.zero_le _) rfl rfl rfl⟩
  case stages =>
    exact fun
      | .s0 => initStage_inRange _ _ (hstages .s0)
      | .s1 => initStage_inRange _ _ (hstages .s1)
      | .s2 => initStage_inRange _ _ (hstages .s2)

theorem execConfigure_consistent (h : s.Consistent) : GoesOnConsistent (execConfigure s) := by
  rcases execConfigure_cases s with ⟨-, e⟩ | ⟨code, index, -, -, e⟩ | ⟨-, hchecked, e⟩ <;> rw [e]
  · exact cmdError_consistent h _
  · exact goesOnConsistent_next (consistent_of_quiet h rfl rfl rfl)
  · exact goesOnConsistent_next (consistent_of_inRange (configureDone_inRange h hchecked).finish rfl)

theorem execPipePush_consistent (h : s.Consistent) : GoesOnConsistent (execPipePush s) := by
  unfold execPipePush
  split
  · rename_i hrun
    split
    · exact goesOnConsistent_fault _
    · rename_i u e
      exact goesOnConsistent_next (consistent_of_quiet (pipelineStep_consistent h hrun e) rfl rfl rfl)
  · exact cmdError_consistent h _

theorem execRxPushLevel_consistent (h : s.Consistent) (l : Level) : GoesOnConsistent (execRxPushLevel l s) :=
  component_completes h (rxPush_keeps l s).configured fun hin => (rxPush_inRange hin l).finish

theorem execRxAbort_consistent (h : s.Consistent) : GoesOnConsistent (execRxAbort s) := by
  unfold execRxAbort
  refine component_completes h rfl fun hin => ?_
  have hended : InRange (endFrame s) := hin.of_receiver rfl hin.receiver.endFrame
  exact (hended.withDecoder (m := Manchester.reset) (Nat.zero_le _)).finish

theorem execOscNext_consistent (h : s.Consistent) (sel : BitVec 2) : GoesOnConsistent (execOscNext sel s) := by
  unfold execOscNext
  split
  · exact cmdError_consistent h _
  · rename_i sid _
    refine component_consistent h fun hconf hin => ?_
    split
    · rename_i htrans
      split
      · exact goesOnConsistent_fault _
      · rename_i w r e
        obtain ⟨-, rfl⟩ := oscNext_ok e
        have hnext : InRange (s.setStage sid (oscAdvance (s.stage sid))) :=
          hin.setStage ((hin.stages sid).oscAdvance htrans)
        exact goesOnConsistent_next (consistent_of_inRange (hnext.of_same rfl) (by simpa using hconf))
    · exact cmdError_consistent h _

theorem finishFilter_sameRanges (out : Option (F32 × F32)) (s : State) : SameRanges s (finishFilter out s) := by
  rw [finishFilter_frame]
  rfl

/-- The results of a FilterCompute that has kept the ranges. -/
theorem finishFilter_consistent (h : InRange t) (hconf : t.ctrl.configured = true) (out : Option (F32 × F32)) :
    GoesOnConsistent (.next (finishFilter out t)) := by
  refine goesOnConsistent_next (consistent_of_inRange (h.of_same (finishFilter_sameRanges out t)) ?_)
  rw [finishFilter_frame]
  exact hconf

theorem execFiltCompute_consistent (h : s.Consistent) (sel : BitVec 2) :
    GoesOnConsistent (execFiltCompute sel s) := by
  unfold execFiltCompute
  split
  · exact cmdError_consistent h _
  · refine component_consistent h fun hconf hin => ?_
    split
    · exact goesOnConsistent_fault _
    · rename_i u out e
      have hmode : u.ctrl = s.ctrl := by obtain ⟨r, -, -, rfl⟩ := filterStage0_ok e; rfl
      exact finishFilter_consistent (filterStage0_inRange hin e) (by rwa [hmode]) _
  · refine component_consistent h fun hconf hin => ?_
    split
    · exact goesOnConsistent_fault _
    · rename_i u out e
      have hmode : u.ctrl = s.ctrl := by obtain ⟨r, -, -, rfl⟩ := filterStage1_ok e; rfl
      exact finishFilter_consistent (filterStage1_inRange hin e) (by rwa [hmode]) _
  · refine component_consistent h fun hconf hin => ?_
    split
    · exact goesOnConsistent_fault _
    · rename_i u out e
      have hmode : u.ctrl = s.ctrl := by obtain ⟨r, -, -, rfl⟩ := filterStage2_ok e; rfl
      exact finishFilter_consistent (filterStage2_inRange hin e) (by rwa [hmode]) _

theorem execCrcPush_consistent (h : s.Consistent) (n : BitVec 6) (acc : Bool) :
    GoesOnConsistent (execCrcPush n acc s) := by
  unfold execCrcPush
  split
  · exact cmdError_consistent h _
  · exact component_completes h rfl fun hin => hin.of_same rfl

theorem exec_consistent (h : s.Consistent) (i : Instr) : GoesOnConsistent (exec i s) := by
  cases i with
  | nop => exact goesOnConsistent_next (consistent_of_quiet h rfl rfl rfl)
  | configure => exact execConfigure_consistent h
  | pipePush => exact execPipePush_consistent h
  | rxPushLevel l => exact execRxPushLevel_consistent h l
  | rxAbort => exact execRxAbort_consistent h
  | oscNext sel => exact execOscNext_consistent h sel
  | filtCompute sel => exact execFiltCompute_consistent h sel
  | trkExtend =>
    unfold exec execTrkExtend
    exact component_completes h rfl fun hin => (hin.withTracker hin.receiver.tracker.extend).finish
  | trkStartSymbol =>
    unfold exec execTrkStartSymbol
    exact component_completes h rfl fun hin => (hin.withTracker hin.receiver.tracker.startSymbol).finish
  | trkCount =>
    unfold exec execTrkCount
    exact component_completes h rfl fun hin => hin.of_same rfl
  | trkLockAvg =>
    unfold exec execTrkLockAvg
    exact component_completes h rfl fun hin =>
      (hin.withTracker (hin.receiver.tracker.lockAverage hin.receiver.legal)).finish
  | trkResetAvg =>
    unfold exec execTrkResetAvg
    exact component_completes h rfl fun hin =>
      (hin.withTracker (hin.receiver.tracker.resetAverage hin.receiver.legal)).finish
  | manAdd l =>
    unfold exec execManAdd
    refine component_completes h rfl fun hin => ?_
    exact (hin.withDecoder (s.man.add_cnt_le l hin.receiver.manCnt)).of_same rfl
  | manPopAll =>
    unfold exec execManPopAll
    exact component_completes h rfl fun hin => (hin.withDecoder (m := s.man.pop) (Nat.zero_le _)).of_same rfl
  | manSize =>
    unfold exec execManSize
    exact component_completes h rfl fun hin => hin.of_same rfl
  | manReset =>
    unfold exec execManReset
    exact component_completes h rfl fun hin => (hin.withDecoder (m := Manchester.reset) (Nat.zero_le _)).finish
  | crcPush n acc => exact execCrcPush_consistent h n acc
  | crcFinalize =>
    unfold exec execCrcFinalize
    exact component_completes h rfl fun hin => hin.of_same rfl
  | crcReset =>
    unfold exec execCrcReset
    exact component_completes h rfl fun hin => hin.of_same rfl
  | crcSelect sel =>
    unfold exec execCrcSelect
    exact component_completes h rfl fun hin => hin.of_same rfl

/-! ### Resets and bus accesses -/

/-- Reset leaves the block unconfigured and its receiver idle (70_reset_and_hazards.md R410). -/
theorem resetBlock_consistent (s : State) : (resetBlock s).Consistent where
  run := nofun
  fatal := rfl
  state := Nat.zero_le _
  manCnt := Nat.zero_le _
  idle _ := ⟨rfl, rfl, rfl⟩
  active h := absurd (show 2 ≤ 0 from h) (by decide)
  devid := ⟨rfl, rfl⟩
  slots i _ := slot_replicate_zero i
  live sid := by cases sid <;> exact Nat.zero_le _
  mem := .nil
  configured := nofun

theorem ctrlWrite_consistent (h : s.Consistent) (w : Word) : (ctrlWrite w s).Consistent := by
  unfold ctrlWrite
  split
  · exact consistent_of_quiet (resetBlock_consistent s) rfl rfl rfl
  · refine consistent_of_same h rfl (fun hrun => ?_) id
    simp only [Bool.and_eq_true] at hrun
    obtain ⟨⟨-, hconf⟩, -⟩ := hrun
    exact hconf

theorem storeCfg_ntaps (r : CfgReg) (w : Word) (s : State) (sid : StageId) :
    ((storeCfg r w s).stage sid).ntaps = if r = .ntaps sid then w else (s.stage sid).ntaps := by
  cases r with
  | ntaps k => cases sid <;> cases k <;> rfl
  | decim k => cases sid <;> cases k <;> rfl
  | fs k => cases sid <;> cases k <;> rfl
  | ftrans k => cases sid <;> cases k <;> rfl
  | transEn k => cases sid <;> cases k <;> rfl
  | _ => cases sid <;> rfl

/-- A CFG write leaves the block unconfigured, and the bound of the specified SHIFT entries within the new NTAPS
(20_memory.md R105, 10_state.md R45). -/
theorem writeCfg_consistent (h : s.Consistent) (hrun : s.ctrl.run = false) (r : CfgReg) (w : Word) :
    (writeCfg r w s).Consistent := by
  have hmem : (storeCfg r w s).mem.wf := by
    rcases storeCfg_mem r w s with e | ⟨a, e⟩ <;> rw [e]
    · exact h.mem
    · exact writeWord_wf _ _ _ h.mem
  have hlive (sid : StageId) :
      ((storeCfg r w s).stage sid).shiftLive ≤ ((storeCfg r w s).stage sid).ntaps.toNat := by
    have hbound := h.live sid
    rw [storeCfg_live, storeCfg_ntaps]
    split <;> omega
  unfold writeCfg
  rw [storeCfg_frame] at hmem hlive ⊢
  refine ⟨fun hr => ?_, h.fatal, h.state, h.manCnt, h.idle, h.active, h.devid, h.slots, hlive, hmem, nofun⟩
  simp [hrun] at hr

theorem cmdWrite_consistent (h : s.Consistent) (w : Word) : GoesOnConsistent (cmdWrite w s) := by
  have hlatched : (latchCommand w s).Consistent := consistent_of_quiet h rfl rfl rfl
  unfold cmdWrite
  split
  · exact cmdError_consistent hlatched _
  · exact exec_consistent hlatched _

theorem writeRw_consistent (h : s.Consistent) (r : RwReg) (w : Word) : GoesOnConsistent (writeRw r w s) := by
  cases r with
  | ctrl => exact goesOnConsistent_next (ctrlWrite_consistent h w)
  | cmd => exact cmdWrite_consistent h w
  | evtStatus => exact goesOnConsistent_next (consistent_of_quiet h rfl rfl rfl)
  | evtEnable => exact goesOnConsistent_next (consistent_of_quiet h rfl rfl rfl)
  | arg0 => exact goesOnConsistent_next (consistent_of_quiet h rfl rfl rfl)
  | arg1 => exact goesOnConsistent_next (consistent_of_quiet h rfl rfl rfl)

theorem busWrite_consistent (h : s.Consistent) (a : Addr) (w : Word) (strobes : BitVec 4) :
    GoesOnConsistent (busWrite a w strobes s) := by
  have hanswered (b : Option BusResp) : State.Consistent { s with busOut := b } := consistent_of_quiet h rfl rfl rfl
  rcases busWrite_cases a w strobes s with ⟨-, e⟩ | ⟨-, -, e⟩ | ⟨r, -, -, e⟩ | ⟨r, -, -, hrun, e⟩ <;> rw [e]
  · exact goesOnConsistent_next (hanswered _)
  · exact goesOnConsistent_next (hanswered _)
  · exact writeRw_consistent (hanswered _) r w
  · exact goesOnConsistent_next (writeCfg_consistent (hanswered (some (.write .okay))) hrun r w)

theorem busAccess_consistent (h : s.Consistent) (op : BusOp) : GoesOnConsistent (busAccess op s) := by
  cases op with
  | read a =>
    refine goesOnConsistent_next ?_
    rw [busRead_frame]
    exact consistent_of_quiet h rfl rfl rfl
  | write a w strobes => exact busWrite_consistent h a w strobes

theorem sample_consistent (h : s.Consistent) (hrun : s.ctrl.run = true) (x : C32) :
    GoesOnConsistent (outcomeOf (pipelineStep x s)) := by
  cases e : pipelineStep x s with
  | error f => exact goesOnConsistent_fault f
  | ok t => exact goesOnConsistent_next (pipelineStep_consistent h hrun e)

theorem step_consistent (h : s.Consistent) : GoesOnConsistent (step s) := by
  have hquiet (ts : List Turn) (ops : List BusOp) (xs : List C32) :
      State.Consistent { quiet s with turns := ts, bus := ops, samples := xs } := consistent_of_quiet h rfl rfl rfl
  rcases step_cases s with ⟨-, e⟩ | ⟨ts, -, e⟩ | ⟨ts, -, -, e⟩ | ⟨ts, op, ops, -, -, e⟩ | ⟨ts, -, -, e⟩ |
    ⟨ts, x, xs, -, -, hrun, e⟩ <;> rw [e]
  · exact goesOnConsistent_next (hquiet _ _ _)
  · exact goesOnConsistent_next (resetBlock_consistent _)
  · exact goesOnConsistent_next (hquiet _ _ _)
  · exact busAccess_consistent (hquiet _ _ _) op
  · exact goesOnConsistent_next (hquiet _ _ _)
  · exact sample_consistent (hquiet _ _ _) hrun x

end

/-- Settles O56: each turn keeps the ranges of a configured block, starts one in range, or ends with
CONFIGURED = 0. -/
theorem stepKeepsConsistency : Obligations.StepKeepsConsistency := fun _ t h hstep => step_consistent h t hstep

end Sys2Proof.Proofs
end

section
/-! PROOFS. The event bits, the interrupt output and the fatal action (60_exceptions.md R376, R380, R382): which
accesses clear an event bit, and that everything else only raises events. -/

namespace Sys2Proof.Proofs

open Sys2Proof Sys2Proof.Machine Sys2Proof.Claims

/-! ### The fatal action (R376) -/

/-- Settles O46: a state value above 5 is in neither arm of the state machine. -/
theorem unreachableStateTakesTheFatalAction : Obligations.UnreachableStateTakesTheFatalAction := by
  intro s b hstate
  rcases smStep_cases b s with ⟨hsync, -⟩ | ⟨-, hfield, -⟩ | ⟨-, e⟩
  · rw [hsync] at hstate
    exact absurd hstate (by decide)
  · omega
  · exact e

/-! ### The interrupt output (R382) -/

theorem irq_iff (s : State) :
    s.irq = true ↔ ∃ i, i < 8 ∧ s.evt.status.getLsbD i = true ∧ s.evt.enable.getLsbD i = true := by
  have hzero : s.evt.status &&& s.evt.enable = 0 ↔
      ∀ i, i < 8 → ¬ (s.evt.status.getLsbD i = true ∧ s.evt.enable.getLsbD i = true) := by
    rw [BitVec.eq_of_getLsbD_eq_iff]
    simp
  rw [State.irq, bne_iff_ne, ne_eq, hzero]
  push Not
  rfl

/-- STATUS.IRQ is bit 3 of the word, above the three mode bits (10_state.md R35). -/
theorem statusWord_bit3 (s : State) : (statusWord s).getLsbD 3 = s.irq := by
  simp [statusWord, bitAt, fieldAt]

/-- Settles O48: a word of enabled events is nonzero exactly if one of its bits is set. -/
theorem interruptIsTheOrOfEnabledEvents : Obligations.InterruptIsTheOrOfEnabledEvents :=
  fun s => ⟨irq_iff s, statusWord_bit3 s⟩

/-! ### What an access does to an event bit (R380) -/

/-- An event bit that is set stays set. -/
def EventStays (i : Nat) (s t : State) : Prop :=
  s.evt.status.getLsbD i = true → t.evt.status.getLsbD i = true

/-- The accesses that clear event bit `i`: a soft reset, and a write of a 1 to the bit in EVT_STATUS (R380,
70_reset_and_hazards.md R411). -/
def ClearsEvent (i : Nat) (op : BusOp) : Prop :=
  (∃ w, op = .write 0x004 w 0xF ∧ w.getLsbD 1 = true) ∨ ∃ w, op = .write 0x010 w 0xF ∧ w.getLsbD i = true

section
variable {i : Nat} {s t : State}

theorem eventStays_of_same (h : t.evt.status = s.evt.status) : EventStays i s t := by
  intro hset
  rwa [h]

/-- Raising events clears none. -/
theorem eventStays_of_raised (h : ∃ e, t.evt.status = s.evt.status ||| e) : EventStays i s t := by
  intro hset
  obtain ⟨e, he⟩ := h
  rw [he, BitVec.getLsbD_or, hset, Bool.true_or]

/-- A 0 written to an event bit leaves it (R380). -/
theorem eventStays_of_zero_written {w : Word} (hw : ¬ w.getLsbD i = true)
    (h : t.evt.status = s.evt.status &&& ~~~(w.extractLsb' 0 8)) : EventStays i s t := by
  intro hset
  have hi : i < 8 := BitVec.lt_of_getLsbD hset
  simp [h, hset, hi, hw]

theorem ctrlWrite_event (w : Word) : w.getLsbD 1 = true ∨ EventStays i s (ctrlWrite w s) := by
  unfold ctrlWrite
  split
  · exact .inl (by assumption)
  · exact .inr (eventStays_of_same rfl)

/-- Whatever becomes of a command, it clears no event. -/
theorem cmdWrite_event {w : Word} (h : cmdWrite w s = .next t) : EventStays i s t := by
  unfold cmdWrite at h
  split at h
  · cases h
    exact eventStays_of_raised ⟨_, rfl⟩
  · exact eventStays_of_raised (exec_frame h).events

theorem busWrite_event {a : Addr} {w : Word} {strobes : BitVec 4} (h : busWrite a w strobes s = .next t) :
    ClearsEvent i (.write a w strobes) ∨ EventStays i s t := by
  rcases busWrite_cases a w strobes s with ⟨-, e⟩ | ⟨-, -, e⟩ | ⟨r, hfull, ha, e⟩ | ⟨r, -, -, -, e⟩ <;> rw [e] at h
  · cases h; exact .inr (eventStays_of_same rfl)
  · cases h; exact .inr (eventStays_of_same rfl)
  · subst hfull
    cases r with
    | ctrl =>
      cases h
      cases regAt_injective ha regAt_ctrl
      exact (ctrlWrite_event (s := { s with busOut := some (.write .okay) }) w).imp_left fun hw => .inl ⟨w, rfl, hw⟩
    | evtStatus =>
      cases h
      cases regAt_injective ha regAt_evtStatus
      by_cases hw : w.getLsbD i = true
      · exact .inl (.inr ⟨w, rfl, hw⟩)
      · exact .inr (eventStays_of_zero_written hw rfl)
    | cmd => exact .inr (cmdWrite_event (s := { s with busOut := some (.write .okay) }) h)
    | evtEnable => cases h; exact .inr (eventStays_of_same rfl)
    | arg0 => cases h; exact .inr (eventStays_of_same rfl)
    | arg1 => cases h; exact .inr (eventStays_of_same rfl)
  · cases h
    unfold writeCfg
    rw [storeCfg_frame]
    exact .inr (eventStays_of_same rfl)

theorem busAccess_event {op : BusOp} (h : busAccess op s = .next t) : ClearsEvent i op ∨ EventStays i s t := by
  cases op with
  | read a =>
    cases h
    rw [busRead_frame]
    exact .inr (eventStays_of_same rfl)
  | write a w strobes => exact busWrite_event h

theorem sample_event {x : C32} (h : outcomeOf (pipelineStep x s) = .next t) : EventStays i s t := by
  cases e : pipelineStep x s with
  | error f => rw [e] at h; cases h
  | ok u =>
    rw [e] at h
    cases h
    exact eventStays_of_raised (pipelineStep_frame e).events

/-- Everything a step can do to an event bit, by the turn it takes. -/
theorem step_event (h : step s = .next t) :
    (∃ ts, s.turns = .reset :: ts) ∨
      (∃ ts op ops, s.turns = .host :: ts ∧ s.bus = op :: ops ∧ ClearsEvent i op) ∨ EventStays i s t := by
  rcases step_cases s with ⟨-, e⟩ | ⟨ts, hturn, e⟩ | ⟨ts, -, -, e⟩ | ⟨ts, op, ops, hturn, hbus, e⟩ | ⟨ts, -, -, e⟩ |
    ⟨ts, x, xs, -, -, -, e⟩ <;> rw [e] at h
  · cases h; exact .inr (.inr (eventStays_of_same rfl))
  · exact .inl ⟨ts, hturn⟩
  · cases h; exact .inr (.inr (eventStays_of_same rfl))
  · exact .inr ((busAccess_event (s := { quiet s with turns := ts, bus := ops }) h).imp_left
      fun hclears => ⟨ts, op, ops, hturn, hbus, hclears⟩)
  · cases h; exact .inr (.inr (eventStays_of_same rfl))
  · exact .inr (.inr (sample_event (s := { quiet s with turns := ts, samples := xs }) h))

end

/-- Settles O47: of the turns, a reset and the two accesses that clear the bit are the only ones under which it does
not stay. -/
theorem eventBitsAreSticky : Obligations.EventBitsAreSticky := by
  intro s t i hstep hset hclear
  rcases step_event (i := i) hstep with hreset | hhost | hstays
  · exact .inl hreset
  · obtain ⟨ts, op, ops, hturn, hbus, ⟨w, rfl, hw⟩ | ⟨w, rfl, hw⟩⟩ := hhost
    · exact .inr ⟨ts, ops, w, hturn, .inl ⟨hbus, hw⟩⟩
    · exact .inr ⟨ts, ops, w, hturn, .inr ⟨hbus, hw⟩⟩
  · have hstill := hstays hset
    simp [hclear] at hstill

end Sys2Proof.Proofs
end

section
/-! PROOFS. Progress (60_exceptions.md R377, 70_reset_and_hazards.md R414): while the stages are ready whenever the
datapath can run, every command, access and turn goes on. -/

namespace Sys2Proof.Proofs

open Sys2Proof Sys2Proof.Machine Sys2Proof.Claims

/-! ### Stages ready for the datapath -/

/-- Every stage is ready in the modes in which a command or a sample can reach the datapath (45_control.md R342,
40_filter.md R191). -/
def DatapathReady (s : State) : Prop := s.ctrl.run = true ∨ s.ctrl.configured = true → ∀ sid, StageReady s sid

section
variable {s : State}

/-- The phase index of a configured stage is inside its oscillator table (45_control.md R349). -/
theorem datapathReady_of_consistent (h : s.Consistent) (htables : s.TablesWritten) : DatapathReady s := by
  intro hmode sid
  have hconf : s.ctrl.configured = true := hmode.elim h.run id
  have hphase := ((h.configured hconf).stages sid).oscIdx
  exact ⟨htables sid, fun htrans => by rwa [if_pos htrans] at hphase⟩

/-- A state is as ready as one that differs from it in nothing a mode, a stage or a table is made of. -/
theorem DatapathReady.of_start {u : State} (h : DatapathReady s)
    (hstart : u = { s with
      evt := u.evt, cmd := u.cmd, busOut := u.busOut, msgOut := u.msgOut, bus := u.bus, samples := u.samples
      turns := u.turns }) : DatapathReady u := by
  rw [hstart]
  exact fun hmode sid => ⟨(h hmode sid).tables, (h hmode sid).phase⟩

/-! ### Commands -/

/-- The operand and mode checks turn a command away and go on (45_control.md R341, R342), so only its effect
remains. -/
theorem exec_completes_of_paused {i : Instr} (hpause : NeedsPause i)
    (heffect : i.WellFormed = true → s.Paused → Completes (exec i s)) : Completes (exec i s) := by
  cases hwf : i.WellFormed
  · exact ⟨_, exec_of_not_wellFormed hwf s⟩
  · obtain ⟨body, hexec⟩ := exec_eq_component hpause hwf s
    rcases component_cases body s with ⟨-, e⟩ | ⟨-, -, e⟩ | ⟨hrun, hconf, -⟩
    · exact ⟨_, hexec.trans e⟩
    · exact ⟨_, hexec.trans e⟩
    · exact heffect hwf ⟨hrun, hconf⟩

theorem execConfigure_completes (s : State) : Completes (execConfigure s) := by
  rcases execConfigure_cases s with ⟨-, e⟩ | ⟨code, index, -, -, e⟩ | ⟨-, -, e⟩ <;> exact ⟨_, e⟩

theorem execPipePush_completes (h : DatapathReady s) : Completes (exec .pipePush s) := by
  cases hrun : s.ctrl.run
  · exact ⟨_, execPipePush_notRunning hrun⟩
  · obtain ⟨t, ht⟩ := pipelineStep_ready (h (.inl hrun)) (complexArg s)
    exact ⟨_, execPipePush_ok hrun ht⟩

theorem execOscNext_completes (h : DatapathReady s) (sel : BitVec 2) : Completes (exec (.oscNext sel) s) := by
  refine exec_completes_of_paused ⟨nofun, nofun, nofun⟩ fun hwf hp => ?_
  obtain ⟨sid, -, hsel⟩ := stageOfSel_of_lt (by simpa [Instr.WellFormed] using hwf)
  have hready := h (.inr hp.2) sid
  cases htrans : (s.stage sid).transEn
  · exact ⟨_, execOscNext_untranslated hp hsel htrans⟩
  · exact ⟨_, execOscNext_ok hp hsel htrans (oscEntry_of_written (hready.tables.2 htrans _ (hready.phase htrans)))⟩

theorem execFiltCompute_completes (h : DatapathReady s) (sel : BitVec 2) :
    Completes (exec (.filtCompute sel) s) := by
  refine exec_completes_of_paused ⟨nofun, nofun, nofun⟩ fun hwf hp => ?_
  obtain ⟨sid, -, hsel⟩ := stageOfSel_of_lt (by simpa [Instr.WellFormed] using hwf)
  obtain ⟨u, hu, -⟩ := execFiltCompute_ready hp hsel (h (.inr hp.2) sid)
  exact ⟨u, hu⟩

theorem execCrcPush_completes (n : BitVec 6) (acc : Bool) (s : State) : Completes (exec (.crcPush n acc) s) := by
  refine exec_completes_of_paused ⟨nofun, nofun, nofun⟩ fun hwf hp => ?_
  have hcount : crcBitCount n = some n.toNat := crcBitCount_of_le (by simpa [Instr.WellFormed] using hwf)
  simp only [exec, execCrcPush, hcount]
  exact ⟨_, component_paused hp.1 hp.2⟩

/-- Every command goes on. Those that read a table or check an operand or the configuration have their own lemmas;
the effect of every other one is total. -/
theorem exec_completes (h : DatapathReady s) (i : Instr) : Completes (exec i s) := by
  cases i with
  | nop => exact ⟨_, rfl⟩
  | configure => exact execConfigure_completes s
  | pipePush => exact execPipePush_completes h
  | oscNext sel => exact execOscNext_completes h sel
  | filtCompute sel => exact execFiltCompute_completes h sel
  | crcPush n acc => exact execCrcPush_completes n acc s
  | rxPushLevel | rxAbort | trkExtend | trkStartSymbol | trkCount | trkLockAvg | trkResetAvg | manAdd | manPopAll
  | manSize | manReset | crcFinalize | crcReset | crcSelect =>
    refine exec_completes_of_paused ⟨nofun, nofun, nofun⟩ fun _ hp => ?_
    unfold exec
    exact ⟨_, component_paused hp.1 hp.2⟩

/-! ### Accesses, samples and turns -/

theorem cmdWrite_completes (h : DatapathReady s) (w : Word) : Completes (cmdWrite w s) := by
  unfold cmdWrite
  split
  · exact ⟨_, rfl⟩
  · exact exec_completes (h.of_start (u := latchCommand w s) rfl) _

theorem writeRw_completes (h : DatapathReady s) (r : RwReg) (w : Word) : Completes (writeRw r w s) := by
  cases r with
  | cmd => exact cmdWrite_completes h w
  | ctrl | evtStatus | evtEnable | arg0 | arg1 => exact ⟨_, rfl⟩

theorem busAccess_completes (h : DatapathReady s) (op : BusOp) : Completes (busAccess op s) := by
  cases op with
  | read a => exact ⟨_, rfl⟩
  | write a w strobes =>
    rcases busWrite_cases a w strobes s with ⟨-, e⟩ | ⟨-, -, e⟩ | ⟨r, -, -, e⟩ | ⟨r, -, -, -, e⟩ <;>
      rw [busAccess, e]
    · exact ⟨_, rfl⟩
    · exact ⟨_, rfl⟩
    · exact writeRw_completes (h.of_start rfl) r w
    · exact ⟨_, rfl⟩

theorem sample_completes (h : DatapathReady s) (hrun : s.ctrl.run = true) (x : C32) :
    Completes (outcomeOf (pipelineStep x s)) := by
  obtain ⟨t, ht⟩ := pipelineStep_ready (h (.inl hrun)) x
  exact ⟨t, by rw [ht, outcomeOf]⟩

theorem step_completes (h : DatapathReady s) : Completes (step s) := by
  rcases step_cases s with ⟨-, e⟩ | ⟨ts, -, e⟩ | ⟨ts, -, -, e⟩ | ⟨ts, op, ops, -, -, e⟩ | ⟨ts, -, -, e⟩ |
    ⟨ts, x, xs, -, -, hrun, e⟩ <;> rw [e]
  · exact ⟨_, rfl⟩
  · exact ⟨_, rfl⟩
  · exact ⟨_, rfl⟩
  · exact busAccess_completes (h.of_start rfl) op
  · exact ⟨_, rfl⟩
  · exact sample_completes (s := { quiet s with turns := ts, samples := xs }) (h.of_start rfl) hrun x

end

/-- Settles O60: a consistent block with written tables has its stages ready whenever the datapath can run, whatever
turn comes next. -/
theorem consistentBlockWithTablesAlwaysGoesOn : Obligations.ConsistentBlockWithTablesAlwaysGoesOn :=
  fun _ hcons htables => step_completes (datapathReady_of_consistent hcons htables)

end Sys2Proof.Proofs
end

section
/-! PROOFS. What a reset leaves, and the CTRL write (70_reset_and_hazards.md R410, R411, 45_control.md R343). -/

namespace Sys2Proof.Proofs

open Sys2Proof Sys2Proof.Machine Sys2Proof.Claims

/-! ### The block at its reset values -/

/-- The reset state, but for what a reset is not about: the answer to a CTRL write, what the agents still have to
offer, and the two counts of the model's own (log entries 13 and 17). -/
def atReset (s : State) : State :=
  { State.reset with
    busOut := s.busOut, bus := s.bus, samples := s.samples, turns := s.turns, epoch := s.epoch
    configCount := s.configCount }

theorem trkSlot_atReset (s : State) (i : Nat) : (atReset s).trk.slot i = 0 := slot_replicate_zero i

theorem vendor_atReset (s : State) (v : BitVec 2) : (atReset s).cfg.vendor v = Vendor.reset := by
  simp [atReset, State.reset, RxConfig.reset, RxConfig.vendor, Vector.get_eq_getElem]

theorem planEntry_reset (i : Nat) : Vendor.reset.plan.getD i PlanEntry.reset = PlanEntry.reset := by
  by_cases hi : i < 8 <;> simp [Vendor.reset, Vector.getD, hi]

theorem irq_atReset (s : State) : (atReset s).irq = false := by
  change ((0 : BitVec 8) &&& 0 != 0) = false
  decide

theorem registerValue_ro_atReset {r : RoReg} (s : State) (hid : r ≠ .id) (hlow : regAddress (.ro r) < 0x1000) :
    registerValue (atReset s) (.ro r) = some 0 := by
  cases r with
  | id => exact absurd rfl hid
  | shift sid t l =>
    simp only [regAddress, shiftAddr] at hlow
    omega
  | trkSlot i =>
    rw [registerValue, trkSlot_atReset]
    exact congrArg some (ite_self 0)
  | status =>
    rw [registerValue, irq_atReset]
    rfl
  | crcAccHi => exact congrArg some (Nat.zero_div _)
  | oscN sid | oscIdx sid | dcnt sid => cases sid <;> rfl
  | counter c => cases c <;> rfl
  | _ => rfl

theorem registerValue_rw_atReset (r : RwReg) (s : State) : registerValue (atReset s) (.rw r) = some 0 := by
  cases r <;> rfl

theorem registerValue_cfg_atReset {r : CfgReg} (s : State) (hlow : regAddress (.cfg r) < 0x1000) :
    registerValue (atReset s) (.cfg r) = some 0 := by
  cases r with
  | coef sid t =>
    simp only [regAddress, coefAddr] at hlow
    omega
  | oscTab sid k l =>
    simp only [regAddress, oscAddr] at hlow
    omega
  | ntaps sid | decim sid | fs sid | ftrans sid | transEn sid => cases sid <;> rfl
  | poly v | finalXor v | planLen v =>
    rw [registerValue, vendor_atReset]
    rfl
  | plan v e =>
    rw [registerValue, vendor_atReset, planEntry_reset]
    rfl
  | _ => rfl

/-- Below the RAM windows every register but ID reads 0 (10_state.md R31 to R59). -/
theorem readReg_atReset {r : Reg} (s : State) (hid : r ≠ .ro .id) (hlow : regAddress r < 0x1000) :
    readReg r (atReset s) = 0 := by
  refine BitVec.eq_of_toNat_eq (readReg_toNat ?_)
  cases r with
  | ro r => exact registerValue_ro_atReset s (fun e => hid (congrArg _ e)) hlow
  | rw r => exact registerValue_rw_atReset r s
  | cfg r => exact registerValue_cfg_atReset s hlow

/-- ID stands at address 0, and no other register does (20_memory.md R107). -/
theorem regAt_eq_id_iff {a : Addr} {r : Reg} (h : regAt a = some r) : r = .ro .id ↔ a = 0 := by
  constructor
  · rintro rfl
    exact regAt_injective h rfl
  · rintro rfl
    exact (Option.some.inj h).symm

theorem readReg_atReset_of_regAt {a : Addr} {r : Reg} (s : State) (h : regAt a = some r) (hlow : a.toNat < 0x1000) :
    readReg r (atReset s) = if a = 0 then 0x53450001 else 0 := by
  split
  next ha =>
    rw [(regAt_eq_id_iff h).2 ha]
    rfl
  next ha =>
    refine readReg_atReset s (fun hid => ha ((regAt_eq_id_iff h).1 hid)) ?_
    rwa [regAt_address h]

/-! ### The CTRL write -/

theorem busAccess_ctrl (w : Word) (s : State) :
    busAccess (.write 0x004 w 0xF) s = .next (ctrlWrite w { s with busOut := some (.write .okay) }) :=
  busWrite_rw regAt_ctrl w s

theorem ctrlWrite_softReset {w : Word} (h : w.getLsbD 1 = true) (s : State) :
    ctrlWrite w s = { resetBlock s with busOut := s.busOut } := if_pos h

theorem ctrlWrite_run {w : Word} (h : w.getLsbD 1 = false) (s : State) :
    ctrlWrite w s =
      { s with ctrl := { s.ctrl with run := w.getLsbD 0 && s.ctrl.configured && !s.ctrl.fatal } } :=
  if_neg (ne_true_of_eq_false h)

/-- A step whose turn is the reset's (R410). -/
theorem step_reset {s : State} {ts : List Turn} (h : s.turns = .reset :: ts) :
    step s = .next (resetBlock { quiet s with turns := ts }) := by
  rw [step, stepOnce, h]
  rfl

/-- Settles O54: what a reset leaves is `atReset`, read register by register; the two resets and the CTRL write are
the model's equations for them. -/
theorem resetsRestoreTheResetValuesAndCtrlSetsALegalRun :
    Obligations.ResetsRestoreTheResetValuesAndCtrlSetsALegalRun := by
  refine ⟨fun s hs => ?_, fun s ts hturn => step_reset hturn, fun s w => ⟨fun hsoft => ?_, fun hrun => ?_⟩⟩
  · rw [show s = atReset s from hs]
    exact ⟨fun a r => readReg_atReset_of_regAt s, fun _ => rfl, trkSlot_atReset s, rfl, irq_atReset s, rfl⟩
  · rw [busAccess_ctrl, ctrlWrite_softReset hsoft]
    rfl
  · rw [busAccess_ctrl, ctrlWrite_run hrun]

/-- Settles O55: the reset state is what `Reset()` leaves of itself, but for the count of resets. -/
theorem resetStateIsConsistent : Obligations.ResetStateIsConsistent :=
  consistent_of_quiet (resetBlock_consistent State.reset) rfl rfl rfl

end Sys2Proof.Proofs
end
